-- ==== Sys2Proof/Word.lean ====
section
/-! DEFINITION. The two word types of the block (00_scope.md R7: a `u8` and a `u16`).
Everything that takes a word apart or puts it together stands in Machine/Bytes.lean. -/

namespace Sys2Proof

/-- A `u8` (R7): an 8-bit register, a byte of memory, an opcode byte, an 8-bit immediate. -/
abbrev Byte := BitVec 8

/-- A `u16` (R7): SP, PC, a 16-bit view, an address, a 16-bit immediate. -/
abbrev Word := BitVec 16

end Sys2Proof
end

