-- ==== Sys2Proof/Machine/Bytes.lean ====
section
/-! DEFINITION. Taking words apart and putting them together: the concatenation `h : l` (00_scope.md
R8), byte order (20_memory.md R55), sign extension (R9), and the address forms of an immediate
(30_encoding.md R74). -/

namespace Sys2Proof

/-- `h : l`, the 16-bit concatenation of two bytes (R8), as `(high << 8) | low` (R22). -/
def wordOf (h l : Byte) : Word := (h.zeroExtend 16 <<< 8) ||| l.zeroExtend 16

/-- `v[15:8]` (R7). -/
def hiByte (v : Word) : Byte := v.extractLsb' 8 8

/-- `v[7:0]` (R7). -/
def loByte (v : Word) : Byte := v.extractLsb' 0 8

/-- A word in the order its bytes lie in memory: the low byte at the lower address (R55). -/
def wordBytes (v : Word) : List Byte := [loByte v, hiByte v]

/-- `sext_16(v)` (R9): the signed offset `e8` as a `u16`. -/
def sext16 (n : Byte) : Word := n.signExtend 16

/-- A relative target, `wrap16(pc + sext(n))` (R74); `pc` is the address past the offset byte. -/
def relTarget (pc : Word) (n : Byte) : Word := pc + sext16 n

/-- The address `0xFF00 + n` of an `a8` or of LD (C) (R74, R157). -/
def pageAddr (n : Byte) : Word := 0xFF00#16 + n.zeroExtend 16

end Sys2Proof
end

