-- ==== Sys2Proof/Config.lean ====
section
/-! DEFINITION. The parameters the spec gives a model (00_scope.md R6), as plain data, and what a byte
of storage that nothing has written reads as. The parameters are chosen at construction
(60_exceptions.md R313) and no step changes them; State carries them (assumption log 2). -/

namespace Sys2Proof

/-- `HANDLED_SET` (R6, R95, D2): which opcodes have a handler. -/
inductive HandledSet where
  /-- Every legal opcode has its rule (the spec's default). -/
  | full
  /-- The 30 control-flow opcodes of R95 raise `UnimplementedOpcode`. -/
  | docMinimum
deriving DecidableEq, Repr

/-- `SBC_H_RULE` (R6, R113, D12): the half-carry formula of a subtraction. -/
inductive SbcHRule where
  /-- `((y & 0xF) + c) > (x & 0xF)` (the spec's default). -/
  | silicon
  /-- `(y' & 0xF) > (x & 0xF)` with `y' = y + c`. -/
  | docLiteral
deriving DecidableEq, Repr

/-- `MBC` (R6, R50): the bank-controller variant behind the bus. `MbcNone` is the only variant the
spec defines (R50: "Only `MbcNone` is specified"). -/
inductive MbcVariant where
  | mbcNone
deriving DecidableEq, Repr

/-- The two parameters that select behaviour of the engine. -/
structure Config where
  handledSet : HandledSet
  sbcHRule : SbcHRule
deriving DecidableEq, Repr

/-- The defaults of R6. -/
def Config.default : Config := { handledSet := .full, sbcHRule := .silicon }

/-- What a storage byte that the memory list does not hold reads as. The spec leaves the initial
contents to the parameter `INIT_MEM` (R6, R33, D11); a byte other than this one that `INIT_MEM` sets
is listed in the memory by `State.construct`.
DESIGN CHOICE (assumption log 1), unsafe: `State.reset` takes `INIT_MEM` as all bytes 0x00, which is
the start state of 95_test_vectors.md. -/
def Config.unlistedByte : Byte := 0x00#8

end Sys2Proof
end

