-- ==== Sys2Proof/Machine/Memory.lean ====
section
/-! DEFINITION. The bytes behind the bus as one list of (address, byte) cells in canonical form:
addresses strictly rising, and no cell equal to what an unlisted address reads as. A cell's key is
the CPU address of the location itself (0x0000-0x7FFF for the MBC's array, 0xC000-0xDFFF for `wram`,
0xFF00-0xFF7F for `io`); Machine/Bus.lean says which address reaches which location. -/

namespace Sys2Proof.Machine

/-- `wram`, `io` and the MBC's `rom` (10_state.md R32) as one sorted list of cells. -/
abbrev Memory := List Host.Cell

/-- The canonical form: addresses strictly rise, and no cell holds the unlisted byte. -/
abbrev Memory.wf (m : Memory) : Prop :=
  m.Pairwise (fun c d => c.1 < d.1) ∧ ∀ c ∈ m, c.2 ≠ Config.unlistedByte

/-- The byte at a location. -/
def Memory.read : Memory → Nat → Byte
  | [], _ => Config.unlistedByte
  | (k, v) :: m, a => if k = a then v else Memory.read m a

/-- The list without the location `a`. -/
def Memory.erase (m : Memory) (a : Nat) : Memory := m.filter (fun c => c.1 != a)

/-- The list with the cell `(a, v)` put before the first higher address. -/
def Memory.insert : Memory → Nat → Byte → Memory
  | [], a, v => [(a, v)]
  | (k, w) :: m, a, v => if a < k then (a, v) :: (k, w) :: m else (k, w) :: Memory.insert m a v

/-- Storing a byte at a location: the canonical form is kept (Laws/Memory.lean). -/
def Memory.write (m : Memory) (a : Nat) (v : Byte) : Memory :=
  if v = Config.unlistedByte then Memory.erase m a else Memory.insert (Memory.erase m a) a v

/-- The memory that a list of cells sets, later cells over earlier ones (for `INIT_MEM`, R6). -/
def Memory.ofCells (cells : List Host.Cell) : Memory :=
  cells.foldl (fun m c => Memory.write m c.1 c.2) []

end Sys2Proof.Machine
end

