-- ==== Sys2Proof/Machine/State.lean ====
section
/-! DEFINITION. The state of the block as plain data (10_state.md R20-R33), its value at construction,
and the reasons a step can stop (60_exceptions.md R300; 40_engine.md R97). -/

namespace Sys2Proof.Machine

/-- The direction of a bus access, as a fatal condition records it (R300); a fetch is a read. -/
inductive Direction where
  | read | write
deriving DecidableEq, Repr

/-- The fatal kinds with the info each records (R300). -/
inductive Fatal where
  /-- The opcode byte is one of the eleven illegal bytes (R78, R94). -/
  | invalidOpcode (op : Byte)
  /-- Under `docMinimum` only: a control-flow opcode (R95). -/
  | unimplementedOpcode (op : Byte)
  /-- The MBC refused the address (R44, R51). -/
  | romAccessOutOfRange (dir : Direction) (addr : Word)
  /-- An access to VRAM, OAM or HRAM (R45). -/
  | unimplementedRegion (dir : Direction) (addr : Word)
deriving DecidableEq, Repr

/-- What the Bus owns (R3, R32). `mem` holds `wram`, `io` and the MBC's `rom`; `ie` backs 0xFFFF; `mbc`
is the bank-controller variant, which `MbcNone` gives no state of its own beside its array. -/
structure Bus where
  mem : Memory
  ie : Bool
  mbc : MbcVariant
deriving DecidableEq, Repr

/-- The state of the block. `F` is a whole byte (R20) whose low nibble every write masks to zero (R21).
The engine status of R30 is computed from `halted` and `faulted` (`State.status`). `cfg` is the
configuration, which R34 does not count as state and no step changes (assumption log 2). -/
structure State where
  a : Byte
  f : Byte
  b : Byte
  c : Byte
  d : Byte
  e : Byte
  h : Byte
  l : Byte
  sp : Word
  pc : Word
  halted : Bool
  ime : Bool
  imePending : Bool
  faulted : Bool
  bus : Bus
  cfg : Config
deriving DecidableEq, Repr

/-- The engine status (R30). -/
inductive Status where
  | running | halted | faulted
deriving DecidableEq, Repr

/-- `Running` and `Halted` are the two values of `halted`; `Faulted` is entered when a fatal condition
is raised (R30). -/
def State.status (s : State) : Status :=
  if s.faulted then .faulted else if s.halted then .halted else .running

/-- The parameter `INIT_MEM` (R6, R33, D11): the cells of the array, WRAM and I/O store that are not
the unlisted byte, and the IE bit. -/
structure InitMem where
  cells : List Host.Cell
  ie : Bool
deriving DecidableEq, Repr

/-- Construction (R33, R320): every register zero, every engine flag false, the memory as `INIT_MEM`
gives it. -/
def State.construct (cfg : Config) (mbc : MbcVariant) (init : InitMem) : State where
  a := 0
  f := 0
  b := 0
  c := 0
  d := 0
  e := 0
  h := 0
  l := 0
  sp := 0
  pc := 0
  halted := false
  ime := false
  imePending := false
  faulted := false
  bus := { mem := Memory.ofCells init.cells, ie := init.ie, mbc := mbc }
  cfg := cfg

/-- The machine right after its only reset, construction (R320), with the spec's default parameters
(R6) and `INIT_MEM` all zero (DESIGN CHOICE, assumption log 1). -/
def State.reset : State :=
  State.construct Config.default .mbcNone { cells := [], ie := false }

/-- Why a step answers a fault. -/
inductive Fault where
  /-- The step returned `Err(Fatal(kind, info))` (R300) and the block is in `Faulted`, in the state
  `s`: what the accesses before the raise left (R301). Raised by the fetch, by an instruction's bus
  accesses, and by the dispatch of an illegal or unhandled opcode. Safe: the spec stops here too. -/
  | fatal (k : Fatal) (s : State)
  /-- The status was already `Faulted`: "no step exists" (R97). Raised by `step`. Safe. -/
  | noStepFromFaulted
deriving DecidableEq, Repr

/-- Why a step answers a refusal. -/
inductive Refusal where
  /-- The arm of an instruction that has no meaning yet. Raised by `exec`'s arms only (none is left).
  Safe. -/
  | notModelled (mnemonic : String)
deriving DecidableEq, Repr

/-- The three outcomes of the host's interface, at this model's types. -/
abbrev Out := Host.Outcome State Fault Refusal

end Sys2Proof.Machine
end

