-- ==== Sys2Proof/Machine/Bus.lean ====
section
/-! DEFINITION. The memory bus (20_memory.md): the region table, the bank controller, and the byte read
and byte write every access goes through. A refused access answers the fatal condition it raises
(R63); what the engine does with it is Machine/Ops.lean. -/

namespace Sys2Proof.Machine

/-- The regions of the address table (R40). -/
inductive Region where
  | rom | vram | cartRam | wram | echo | oam | unusable | io | hram | ie
deriving DecidableEq, Repr

/-- The region of an address, by the ranges of R40. -/
def region (a : Word) : Region :=
  let n := a.toNat
  if n ≤ 0x7FFF then .rom
  else if n ≤ 0x9FFF then .vram
  else if n ≤ 0xBFFF then .cartRam
  else if n ≤ 0xDFFF then .wram
  else if n ≤ 0xFDFF then .echo
  else if n ≤ 0xFE9F then .oam
  else if n ≤ 0xFEFF then .unusable
  else if n ≤ 0xFF7F then .io
  else if n ≤ 0xFFFE then .hram
  else .ie

/-- The location an address names: an echo address and the WRAM address 0x2000 below it are the same
location (R46); every other address is a location of its own. -/
def location (a : Word) : Nat :=
  match region a with
  | .echo => a.toNat - 0x2000
  | _ => a.toNat

/-- `MBC.read_byte(addr)` (R50); `none` is the error `RomAccessOutOfRange`. For `MbcNone` (R51) the
array's byte `a` is the memory's cell `a`, and an address at or above 0x8000 is refused. -/
def mbcReadByte (mbc : MbcVariant) (m : Memory) (a : Word) : Option Byte :=
  match mbc with
  | .mbcNone => if 0x8000 ≤ a.toNat then none else some (m.read a.toNat)

/-- `MBC.write_byte(addr, v)` (R50); `none` is the error `RomAccessOutOfRange`. `MbcNone` stores every
write below 0x8000 (R51). -/
def mbcWriteByte (mbc : MbcVariant) (m : Memory) (a : Word) (v : Byte) : Option Memory :=
  match mbc with
  | .mbcNone => if 0x8000 ≤ a.toNat then none else some (m.write a.toNat v)

/-- The byte IE reads as (R48). -/
def ieByte (b : Bool) : Byte := if b then 0x01#8 else 0x00#8

/-- `MemRead(addr, 1)` (R41). A read changes nothing (R58). -/
def Bus.read (b : Bus) (a : Word) : Except Fatal Byte :=
  match region a with
  | .rom | .cartRam =>
    match mbcReadByte b.mbc b.mem a with
    | some v => .ok v
    | none => .error (.romAccessOutOfRange .read a)
  | .vram | .oam | .hram => .error (.unimplementedRegion .read a)
  | .wram | .echo | .io => .ok (b.mem.read (location a))
  | .unusable => .ok 0x00#8
  | .ie => .ok (ieByte b.ie)

/-- `MemWrite(addr, 1, v)` (R42). -/
def Bus.write (b : Bus) (a : Word) (v : Byte) : Except Fatal Bus :=
  match region a with
  | .rom | .cartRam =>
    match mbcWriteByte b.mbc b.mem a v with
    | some m => .ok { b with mem := m }
    | none => .error (.romAccessOutOfRange .write a)
  | .vram | .oam | .hram => .error (.unimplementedRegion .write a)
  | .wram | .echo | .io => .ok { b with mem := b.mem.write (location a) v }
  | .unusable => .ok b
  | .ie => .ok { b with ie := v.getLsbD 0 }

end Sys2Proof.Machine
end

