-- ==== Sys2Proof/Syntax/Operand.lean ====
section
/-! DEFINITION. The closed enumerations an instruction's operands and the register accessors range over
(10_state.md R20-R24; 30_encoding.md R72, R73, R75, R76). -/

namespace Sys2Proof

/-- The eight 8-bit cells of the register file (R20), as the accessors name them (R21). -/
inductive R8 where
  | a | f | b | c | d | e | h | l
deriving DecidableEq, Repr

/-- The 16-bit registers and views (R20, R22). -/
inductive R16 where
  | af | bc | de | hl | sp | pc
deriving DecidableEq, Repr

/-- The four flags of F (R24). -/
inductive Flag where
  | z | n | h | c
deriving DecidableEq, Repr

/-- The register operands of the `r8` table (R72), in code order; code 6, `(HL)`, is no register. -/
inductive Reg where
  | b | c | d | e | h | l | a
deriving DecidableEq, Repr

/-- The cell a register operand names. -/
def Reg.cell : Reg → R8
  | .b => .b
  | .c => .c
  | .d => .d
  | .e => .e
  | .h => .h
  | .l => .l
  | .a => .a

/-- The pair operands `rr` of LD rr,d16; INC rr; DEC rr; ADD HL,rr (R72). -/
inductive RR where
  | bc | de | hl | sp
deriving DecidableEq, Repr

def RR.view : RR → R16
  | .bc => .bc
  | .de => .de
  | .hl => .hl
  | .sp => .sp

/-- The pair operands `rr_stk` of PUSH and POP (R72). -/
inductive StkPair where
  | bc | de | hl | af
deriving DecidableEq, Repr

def StkPair.view : StkPair → R16
  | .bc => .bc
  | .de => .de
  | .hl => .hl
  | .af => .af

/-- The indirect operands `rr_ind` of the A loads and stores (R72): (BC), (DE), (HL+), (HL-). -/
inductive Ind where
  | bc | de | hlInc | hlDec
deriving DecidableEq, Repr

/-- The condition codes (R73). -/
inductive Cond where
  | nz | z | nc | c
deriving DecidableEq, Repr

/-- The eight accumulator operations, in the order of `y` (R75). -/
inductive AluOp where
  | add | adc | sub | sbc | and | xor | or | cp
deriving DecidableEq, Repr

/-- The eight rotate and shift operations, in the order of `y` (R76). -/
inductive RotOp where
  | rlc | rrc | rl | rr | sla | sra | swap | srl
deriving DecidableEq, Repr

/-- An operand `r8[z]` (R72): a register, or the byte at `x[HL]`. -/
inductive Opnd where
  | reg (r : Reg)
  | mhl
deriving DecidableEq, Repr

/-- The second operand of an accumulator operation (44_alu8.md): a register, `(HL)` or `d8`. -/
inductive Src where
  | reg (r : Reg)
  | mhl
  | imm (n : Byte)
deriving DecidableEq, Repr

end Sys2Proof
end

