-- ==== Sys2Proof/Machine/Flags.lean ====
section
/-! DEFINITION. The flags of F and the ALU primitives (10_state.md R24; 41_alu.md). A primitive takes F
and its operands and answers the result with the new F; it writes only the flags its rule names
(R110), and the other bits of F stay as they are. -/

namespace Sys2Proof.Machine

/-- A flag's bit of F (R24). -/
def flagBit : Flag → Nat
  | .z => 7
  | .n => 6
  | .h => 5
  | .c => 4

/-- `F.f` (R24). -/
def getFlag (f : Byte) (k : Flag) : Bool := f.getLsbD (flagBit k)

/-- `F.f <- b` (R24): that one bit, the others unchanged. -/
def putFlag (f : Byte) (k : Flag) (b : Bool) : Byte :=
  if b then f ||| (1#8 <<< flagBit k) else f &&& ~~~(1#8 <<< flagBit k)

/-- Writing all four flags. -/
def putFlags (f : Byte) (z n h c : Bool) : Byte :=
  putFlag (putFlag (putFlag (putFlag f .z z) .n n) .h h) .c c

/-- What is stored by a write to F (R21): bits 3..0 are masked to zero. -/
def maskF (v : Byte) : Byte := v &&& 0xF0#8

/-- The carry-in of `add_bytes` and `sub_bytes`: `1 if (use_carry and F.C) else 0`. -/
def carryIn (f : Byte) (useCarry : Bool) : Bool := useCarry && getFlag f .c

/-- A carry as a 16-bit number (R7: `true` = 1). -/
def carryWord (c : Bool) : Word := if c then 1#16 else 0#16

/-- `add_bytes(x, y, use_carry)` (R111), in a 16-bit accumulator. -/
def addBytes (f x y : Byte) (useCarry : Bool) : Byte × Byte :=
  let result := x.zeroExtend 16 + y.zeroExtend 16 + carryWord (carryIn f useCarry)
  let h := decide (((x.zeroExtend 16 ^^^ y.zeroExtend 16 ^^^ result) &&& 0x10#16) ≠ 0#16)
  let c := decide ((result &&& 0x100#16) ≠ 0#16)
  let n := loByte result
  (n, putFlags f (n == 0) false h c)

/-- `add_words(x, y)` (R112): two `add_bytes`, low bytes first, the carry chained, Z preserved. -/
def addWords (f : Byte) (x y : Word) : Word × Byte :=
  let lo := addBytes f (loByte x) (loByte y) false
  let hi := addBytes lo.2 (hiByte x) (hiByte y) true
  (wordOf hi.1 lo.1, putFlag hi.2 .z (getFlag f .z))

/-- The half-borrow of `sub_bytes` under each value of `SBC_H_RULE` (R113). -/
def halfBorrow (rule : SbcHRule) (x y : Byte) (c : Bool) : Bool :=
  match rule with
  | .silicon => decide (y.toNat % 16 + c.toNat > x.toNat % 16)
  | .docLiteral => decide ((y.toNat + c.toNat) % 16 > x.toNat % 16)

/-- `sub_bytes(x, y, use_carry)` (R113), in 16-bit two's complement. -/
def subBytes (rule : SbcHRule) (f x y : Byte) (useCarry : Bool) : Byte × Byte :=
  let ci := carryIn f useCarry
  let result := x.zeroExtend 16 - (y.zeroExtend 16 + carryWord ci)
  let c := decide ((result &&& 0x100#16) ≠ 0#16)
  let n := loByte result
  (n, putFlags f (n == 0) true (halfBorrow rule x y ci) c)

/-- `inc_byte(x)` (R115): C unchanged. -/
def incByte (f x : Byte) : Byte × Byte :=
  let n := x + 1
  (n, putFlag (putFlag (putFlag f .z (n == 0)) .n false) .h (decide (x.toNat % 16 + 1 > 15)))

/-- `dec_byte(x)` (R116): C unchanged. -/
def decByte (f x : Byte) : Byte × Byte :=
  let n := x - 1
  (n, putFlag (putFlag (putFlag f .z (n == 0)) .n true) .h (decide (x.toNat % 16 = 0)))

/-- `and_a(y)` (R117), as the new A and F. -/
def andBytes (f a y : Byte) : Byte × Byte :=
  let n := a &&& y
  (n, putFlags f (n == 0) false true false)

/-- `or_a(y)` (R118). -/
def orBytes (f a y : Byte) : Byte × Byte :=
  let n := a ||| y
  (n, putFlags f (n == 0) false false false)

/-- `xor_a(y)` (R119). -/
def xorBytes (f a y : Byte) : Byte × Byte :=
  let n := a ^^^ y
  (n, putFlags f (n == 0) false false false)

/-- `sp_plus_e8(n)` (R120): the sum is signed, H and C come from the unsigned low-byte addition, and Z
and N are cleared. -/
def spPlusE8 (f : Byte) (sp : Word) (n : Byte) : Word × Byte :=
  let h := decide (sp.toNat % 16 + n.toNat % 16 > 15)
  let c := decide (sp.toNat % 256 + n.toNat > 255)
  (sp + sext16 n, putFlags f false false h c)

/-- What the rotates and shifts have in common (R121-R128): Z from the result, N and H cleared, C the
bit shifted out. -/
def shiftResult (f n : Byte) (out : Bool) : Byte × Byte := (n, putFlags f (n == 0) false false out)

/-- A bit as a byte: 0x01 or 0x00. -/
def bitByte (b : Bool) : Byte := if b then 1#8 else 0#8

/-- `rlc(v)` (R121): bit 7 goes to bit 0 and to C. -/
def rlc (f v : Byte) : Byte × Byte :=
  shiftResult f ((v <<< 1) ||| bitByte (v.getLsbD 7)) (v.getLsbD 7)

/-- `rrc(v)` (R122): bit 0 goes to bit 7 and to C; the old C is not used. -/
def rrc (f v : Byte) : Byte × Byte :=
  shiftResult f ((v >>> 1) ||| (bitByte (v.getLsbD 0) <<< 7)) (v.getLsbD 0)

/-- `rl(v)` (R123): the old C goes to bit 0, bit 7 to C. -/
def rl (f v : Byte) : Byte × Byte :=
  shiftResult f ((v <<< 1) ||| bitByte (getFlag f .c)) (v.getLsbD 7)

/-- `rr(v)` (R124): the old C goes to bit 7, bit 0 to C. -/
def rr (f v : Byte) : Byte × Byte :=
  shiftResult f ((v >>> 1) ||| (bitByte (getFlag f .c) <<< 7)) (v.getLsbD 0)

/-- `sla(v)` (R125): bit 0 is filled with 0. -/
def sla (f v : Byte) : Byte × Byte := shiftResult f (v <<< 1) (v.getLsbD 7)

/-- `sra(v)` (R126): bit 7 is kept. -/
def sra (f v : Byte) : Byte × Byte :=
  shiftResult f ((v >>> 1) ||| (v &&& 0x80#8)) (v.getLsbD 0)

/-- `swap(v)` (R127): the nibbles change places; C is cleared. -/
def swap (f v : Byte) : Byte × Byte :=
  shiftResult f (((v &&& 0x0F#8) <<< 4) ||| (v >>> 4)) false

/-- `srl(v)` (R128): bit 7 is filled with 0. -/
def srl (f v : Byte) : Byte × Byte := shiftResult f (v >>> 1) (v.getLsbD 0)

/-- The rotate or shift that `ROT[y]` names (R76). -/
def rotate : RotOp → Byte → Byte → Byte × Byte
  | .rlc => rlc
  | .rrc => rrc
  | .rl => rl
  | .rr => rr
  | .sla => sla
  | .sra => sra
  | .swap => swap
  | .srl => srl

/-- `bit_test(b, v)` (R129), as the new F: C unchanged. -/
def bitTest (f : Byte) (b : Fin 8) (v : Byte) : Byte :=
  putFlag (putFlag (putFlag f .z (!v.getLsbD b)) .n false) .h true

/-- `v & ~(1 << b)` (R259). -/
def resetBit (b : Fin 8) (v : Byte) : Byte := v &&& ~~~(1#8 <<< b.val)

/-- `v | (1 << b)` (R261). -/
def setBit (b : Fin 8) (v : Byte) : Byte := v ||| (1#8 <<< b.val)

/-- The adjustment of `daa()` and the new C (R130): both tests read the original A. -/
def daaAdjust (f a : Byte) : Byte × Bool :=
  let c := getFlag f .c
  let h := getFlag f .h
  if getFlag f .n then
    ((if h then 0x06#8 else 0#8) ||| (if c then 0x60#8 else 0#8), c)
  else
    let low := h || decide (a.toNat % 16 > 9)
    let high := c || decide (a.toNat > 0x99)
    ((if low then 0x06#8 else 0#8) ||| (if high then 0x60#8 else 0#8), high)

/-- `daa()` (R130), as the new A and F: N unchanged. -/
def daa (f a : Byte) : Byte × Byte :=
  let adj := daaAdjust f a
  let n := if getFlag f .n then a - adj.1 else a + adj.1
  (n, putFlag (putFlag (putFlag f .z (n == 0)) .h false) .c adj.2)

/-- `x[A] ^ 0xFF` with the flags of CPL (R235): Z and C unchanged. -/
def cpl (f a : Byte) : Byte × Byte := (a ^^^ 0xFF#8, putFlag (putFlag f .n true) .h true)

/-- The flags of SCF (R236): Z unchanged. -/
def scf (f : Byte) : Byte := putFlag (putFlag (putFlag f .n false) .h false) .c true

/-- The flags of CCF (R237): Z unchanged. -/
def ccf (f : Byte) : Byte := putFlag (putFlag (putFlag f .n false) .h false) .c (!getFlag f .c)

/-- `cond(cc)` (R73). -/
def condHolds (f : Byte) : Cond → Bool
  | .nz => !getFlag f .z
  | .z => getFlag f .z
  | .nc => !getFlag f .c
  | .c => getFlag f .c

end Sys2Proof.Machine
end

