-- ==== Sys2Proof/Machine/Ops.lean ====
section
/-! DEFINITION. The named operations every meaning is built from: the register file's accessors
(10_state.md R21-R24), raising a fatal condition (60_exceptions.md R300-R303), bus accesses that may
raise one, the stack (43_loads16_stack.md R176, R177) and the return from an interrupt handler. -/

namespace Sys2Proof.Machine

/-- `get_r8(r)` (R21). -/
def State.getR8 (s : State) : R8 → Byte
  | .a => s.a
  | .f => s.f
  | .b => s.b
  | .c => s.c
  | .d => s.d
  | .e => s.e
  | .h => s.h
  | .l => s.l

/-- `set_r8(r, v)` (R21): a write to F is masked. -/
def State.setR8 (s : State) (r : R8) (v : Byte) : State :=
  match r with
  | .a => { s with a := v }
  | .f => { s with f := maskF v }
  | .b => { s with b := v }
  | .c => { s with c := v }
  | .d => { s with d := v }
  | .e => { s with e := v }
  | .h => { s with h := v }
  | .l => { s with l := v }

/-- `get_r16(rr)` (R22): a view is its two cells, the first-named letter the high byte. -/
def State.getR16 (s : State) : R16 → Word
  | .af => wordOf s.a s.f
  | .bc => wordOf s.b s.c
  | .de => wordOf s.d s.e
  | .hl => wordOf s.h s.l
  | .sp => s.sp
  | .pc => s.pc

/-- `set_r16(rr, v)` (R23): a view writes both of its cells; for AF the low byte goes to F masked. -/
def State.setR16 (s : State) (rr : R16) (v : Word) : State :=
  match rr with
  | .af => { s with a := hiByte v, f := maskF (loByte v) }
  | .bc => { s with b := hiByte v, c := loByte v }
  | .de => { s with d := hiByte v, e := loByte v }
  | .hl => { s with h := hiByte v, l := loByte v }
  | .sp => { s with sp := v }
  | .pc => { s with pc := v }

/-- `flag_value(f)` (R24). -/
def State.flag (s : State) (k : Flag) : Bool := getFlag s.f k

/-- `set_flag(f, b)` (R24). -/
def State.setFlag (s : State) (k : Flag) (b : Bool) : State := { s with f := putFlag s.f k b }

/-- A register operand's value, `x[r]`. -/
def State.reg (s : State) (r : Reg) : Byte := s.getR8 r.cell

/-- `x[r] <- v` for a register operand. -/
def State.setReg (s : State) (r : Reg) (v : Byte) : State := s.setR8 r.cell v

/-- `x[HL]`. -/
def State.hl (s : State) : Word := s.getR16 .hl

/-- `x[HL] <- v`. -/
def State.setHL (s : State) (v : Word) : State := s.setR16 .hl v

/-- Trap entry (R303): nothing is saved, no mask changes, nothing is pushed and control goes nowhere;
the status becomes `Faulted`. -/
def State.enterFaulted (s : State) : State := { s with faulted := true }

/-- `raise Fatal(kind, info)` (R10, R300, R301): the step ends at once with the error, and the block is
in `Faulted` with what was done before the raise. -/
def raiseFatal (k : Fatal) (s : State) : Out := .fault (.fatal k s.enterFaulted)

/-- A computation that may raise a fatal condition; a raise carries the state at that point. -/
abbrev Exec (α : Type) := Except (Fatal × State) α

/-- A finished instruction: the next state, or the raised fatal condition. -/
def finish : Exec State → Out
  | .ok s => .next s
  | .error e => raiseFatal e.1 e.2

/-- `MemRead(addr, 1)` inside a step: a bus error is fatal (R63). -/
def load (s : State) (a : Word) : Exec Byte :=
  match s.bus.read a with
  | .ok v => .ok v
  | .error k => .error (k, s)

/-- `MemWrite(addr, 1, v)` inside a step. -/
def store (s : State) (a : Word) (v : Byte) : Exec State :=
  match s.bus.write a v with
  | .ok b => .ok { s with bus := b }
  | .error k => .error (k, s)

/-- `MemRead(addr, 2)` (R52): low byte first, the high address wraps. -/
def loadWord (s : State) (a : Word) : Exec Word := do
  let lo ← load s a
  let hi ← load s (a + 1)
  return wordOf hi lo

/-- `MemWrite(addr, 2, v)` (R53): low byte first; the first write stays done if the second raises. -/
def storeWord (s : State) (a : Word) (v : Word) : Exec State := do
  let s ← store s a (loByte v)
  store s (a + 1) (hiByte v)

/-- One byte of a push: SP is decremented, then the byte is written at it (R176). -/
def pushByte (s : State) (v : Byte) : Exec State := store { s with sp := s.sp - 1 } (s.sp - 1) v

/-- `Push16(v)` (R176): the high byte first, at SP-1, then the low byte at SP-2. -/
def push16 (s : State) (v : Word) : Exec State := do
  let s ← pushByte s (hiByte v)
  pushByte s (loByte v)

/-- One byte of a pop: the byte at SP, then SP is incremented (R177). -/
def popByte (s : State) : Exec (Byte × State) := do
  let v ← load s s.sp
  return (v, { s with sp := s.sp + 1 })

/-- `Pop16()` (R177): the low byte first. -/
def pop16 (s : State) : Exec (Word × State) := do
  let lo ← popByte s
  let hi ← popByte lo.2
  return (wordOf hi.1 lo.1, hi.2)

/-- `pc <- Pop16()`, the return of RET, RET cc and RETI (R282-R284). No instruction returns from a
fatal condition (R304). -/
def returnFromCall (s : State) : Exec State := do
  let r ← pop16 s
  return { r.2 with pc := r.1 }

/-- `Push16(pc); pc <- target`, the call of CALL, CALL cc and RST (R280, R281, R285). -/
def callTo (s : State) (target : Word) : Exec State := do
  let s ← push16 s s.pc
  return { s with pc := target }

end Sys2Proof.Machine
end

