-- ==== Sys2Proof/Machine/Operands.lean ====
section
/-! DEFINITION. The operand forms (30_encoding.md R72, R74): reading and writing an operand `r8[z]`, the
second operand of an accumulator operation, the indirect addresses of the A loads, and a taken
relative branch. -/

namespace Sys2Proof.Machine

/-- Reading `r8[z]`: a register, or the byte at `x[HL]`. -/
def readOpnd (s : State) : Opnd → Exec Byte
  | .reg r => .ok (s.reg r)
  | .mhl => load s s.hl

/-- Writing `r8[z]`. -/
def writeOpnd (s : State) (o : Opnd) (v : Byte) : Exec State :=
  match o with
  | .reg r => .ok (s.setReg r v)
  | .mhl => store s s.hl v

/-- Reading the second operand of an accumulator operation: a register, `(HL)` or `d8`. -/
def readSrc (s : State) : Src → Exec Byte
  | .reg r => .ok (s.reg r)
  | .mhl => load s s.hl
  | .imm n => .ok n

/-- The address of an indirect operand `rr_ind` (R72), before HL moves. -/
def indAddr (s : State) : Ind → Word
  | .bc => s.getR16 .bc
  | .de => s.getR16 .de
  | .hlInc | .hlDec => s.hl

/-- What an indirect operand does to HL after the access (R149-R152): the sum wraps. -/
def indAdvance (s : State) : Ind → State
  | .bc | .de => s
  | .hlInc => s.setHL (s.hl + 1)
  | .hlDec => s.setHL (s.hl - 1)

/-- Read, compute, write back, in that order (R205, R207, R240); `op` answers the result and the new F,
and F is written between the two accesses. -/
def modifyOpnd (s : State) (o : Opnd) (op : Byte → Byte → Byte × Byte) : Exec State := do
  let v ← readOpnd s o
  let r := op s.f v
  writeOpnd { s with f := r.2 } o r.1

/-- `x[A] <- r.1` with F `r.2`: how an accumulator operation ends. -/
def State.setAcc (s : State) (r : Byte × Byte) : State := { s with a := r.1, f := r.2 }

/-- `pc <- wrap16(pc + sext_16(n))` (R275). -/
def State.jumpRel (s : State) (n : Byte) : State := { s with pc := relTarget s.pc n }

/-- `if cond(cc)`: the branch when the condition holds on F, else nothing (R73). -/
def ifCond (s : State) (cc : Cond) (taken : Exec State) : Exec State :=
  if condHolds s.f cc then taken else .ok s

end Sys2Proof.Machine
end

