-- ==== Sys2Proof/Machine/AccMisc.lean ====
section
/-! DEFINITION. Accumulator rotates and flag operations (46_acc_misc.md).
One definition per row of the opcode table, over the shared operations above them. -/

namespace Sys2Proof.Machine

/-- RLCA, RRCA, RLA, RRA (R230-R233): the rotate helper on A, then Z is cleared (C3, D17). -/
def accRotate (op : Byte → Byte → Byte × Byte) (s : State) : Out :=
  let r := op s.f s.a
  .next (s.setAcc (r.1, putFlag r.2 .z false))

/-- `RLCA` (R230). -/
def execRlca (s : State) : Out := accRotate rlc s

/-- `RRCA` (R231). -/
def execRrca (s : State) : Out := accRotate rrc s

/-- `RLA` (R232). -/
def execRla (s : State) : Out := accRotate rl s

/-- `RRA` (R233). -/
def execRra (s : State) : Out := accRotate rr s

/-- `DAA` (R234). -/
def execDaa (s : State) : Out := .next (s.setAcc (daa s.f s.a))

/-- `CPL` (R235). -/
def execCpl (s : State) : Out := .next (s.setAcc (cpl s.f s.a))

/-- `SCF` (R236). -/
def execScf (s : State) : Out := .next { s with f := scf s.f }

/-- `CCF` (R237). -/
def execCcf (s : State) : Out := .next { s with f := ccf s.f }

end Sys2Proof.Machine
end

