-- ==== Sys2Proof/Machine/Alu16.lean ====
section
/-! DEFINITION. 16-bit arithmetic (45_alu16.md).
One definition per row of the opcode table, over the shared operations above them. -/

namespace Sys2Proof.Machine

/-- ADD HL,rr (R220). -/
def addHL (p : RR) (s : State) : Out :=
  let r := addWords s.f s.hl (s.getR16 p.view)
  .next (State.setHL { s with f := r.2 } r.1)

/-- INC rr (R221): no flag is written. -/
def incPair (p : RR) (s : State) : Out := .next (s.setR16 p.view (s.getR16 p.view + 1))

/-- DEC rr (R222): no flag is written. -/
def decPair (p : RR) (s : State) : Out := .next (s.setR16 p.view (s.getR16 p.view - 1))

/-- `INC BC` (R221). -/
def execIncBc (s : State) : Out := incPair .bc s

/-- `ADD HL,BC` (R220). -/
def execAddHlBc (s : State) : Out := addHL .bc s

/-- `DEC BC` (R222). -/
def execDecBc (s : State) : Out := decPair .bc s

/-- `INC DE` (R221). -/
def execIncDe (s : State) : Out := incPair .de s

/-- `ADD HL,DE` (R220). -/
def execAddHlDe (s : State) : Out := addHL .de s

/-- `DEC DE` (R222). -/
def execDecDe (s : State) : Out := decPair .de s

/-- `INC HL` (R221). -/
def execIncHl (s : State) : Out := incPair .hl s

/-- `ADD HL,HL` (R220). -/
def execAddHlHl (s : State) : Out := addHL .hl s

/-- `DEC HL` (R222). -/
def execDecHl (s : State) : Out := decPair .hl s

/-- `INC SP` (R221). -/
def execIncSp (s : State) : Out := incPair .sp s

/-- `ADD HL,SP` (R220). -/
def execAddHlSp (s : State) : Out := addHL .sp s

/-- `DEC SP` (R222). -/
def execDecSp (s : State) : Out := decPair .sp s

/-- `ADD SP,e8` (R223). -/
def execAddSpE8 (e : Byte) (s : State) : Out :=
  let r := spPlusE8 s.f s.sp e
  .next { s with sp := r.1, f := r.2 }

end Sys2Proof.Machine
end

