-- ==== Sys2Proof/Machine/Alu8.lean ====
section
/-! DEFINITION. 8-bit arithmetic and logic (44_alu8.md).
One definition per row of the opcode table, over the shared operations above them. -/

namespace Sys2Proof.Machine

/-- What an accumulator operation does with its second operand (R111, R113, R114, R117-R119): CP writes
the flags only. -/
def aluApply (op : AluOp) (s : State) (y : Byte) : State :=
  match op with
  | .add => s.setAcc (addBytes s.f s.a y false)
  | .adc => s.setAcc (addBytes s.f s.a y true)
  | .sub => s.setAcc (subBytes s.cfg.sbcHRule s.f s.a y false)
  | .sbc => s.setAcc (subBytes s.cfg.sbcHRule s.f s.a y true)
  | .and => s.setAcc (andBytes s.f s.a y)
  | .xor => s.setAcc (xorBytes s.f s.a y)
  | .or => s.setAcc (orBytes s.f s.a y)
  | .cp => { s with f := (subBytes s.cfg.sbcHRule s.f s.a y false).2 }

/-- The accumulator operations with any second operand (R180-R203): the operand is read first. -/
def aluOp (op : AluOp) (y : Src) (s : State) : Out :=
  finish (do
    let v ← readSrc s y
    return aluApply op s v)

/-- INC r and INC (HL) (R204, R205). -/
def incOpnd (o : Opnd) (s : State) : Out := finish (modifyOpnd s o incByte)

/-- DEC r and DEC (HL) (R206, R207). -/
def decOpnd (o : Opnd) (s : State) : Out := finish (modifyOpnd s o decByte)

/-- `INC B` (R204). -/
def execIncB (s : State) : Out := incOpnd (.reg .b) s

/-- `DEC B` (R206). -/
def execDecB (s : State) : Out := decOpnd (.reg .b) s

/-- `INC C` (R204). -/
def execIncC (s : State) : Out := incOpnd (.reg .c) s

/-- `DEC C` (R206). -/
def execDecC (s : State) : Out := decOpnd (.reg .c) s

/-- `INC D` (R204). -/
def execIncD (s : State) : Out := incOpnd (.reg .d) s

/-- `DEC D` (R206). -/
def execDecD (s : State) : Out := decOpnd (.reg .d) s

/-- `INC E` (R204). -/
def execIncE (s : State) : Out := incOpnd (.reg .e) s

/-- `DEC E` (R206). -/
def execDecE (s : State) : Out := decOpnd (.reg .e) s

/-- `INC H` (R204). -/
def execIncH (s : State) : Out := incOpnd (.reg .h) s

/-- `DEC H` (R206). -/
def execDecH (s : State) : Out := decOpnd (.reg .h) s

/-- `INC L` (R204). -/
def execIncL (s : State) : Out := incOpnd (.reg .l) s

/-- `DEC L` (R206). -/
def execDecL (s : State) : Out := decOpnd (.reg .l) s

/-- `INC (HL)` (R205). -/
def execIncMhl (s : State) : Out := incOpnd .mhl s

/-- `DEC (HL)` (R207). -/
def execDecMhl (s : State) : Out := decOpnd .mhl s

/-- `INC A` (R204). -/
def execIncA (s : State) : Out := incOpnd (.reg .a) s

/-- `DEC A` (R206). -/
def execDecA (s : State) : Out := decOpnd (.reg .a) s

/-- `ADD A,B` (R180). -/
def execAddAB (s : State) : Out := aluOp .add (.reg .b) s

/-- `ADD A,C` (R180). -/
def execAddAC (s : State) : Out := aluOp .add (.reg .c) s

/-- `ADD A,D` (R180). -/
def execAddAD (s : State) : Out := aluOp .add (.reg .d) s

/-- `ADD A,E` (R180). -/
def execAddAE (s : State) : Out := aluOp .add (.reg .e) s

/-- `ADD A,H` (R180). -/
def execAddAH (s : State) : Out := aluOp .add (.reg .h) s

/-- `ADD A,L` (R180). -/
def execAddAL (s : State) : Out := aluOp .add (.reg .l) s

/-- `ADD A,(HL)` (R181). -/
def execAddAMhl (s : State) : Out := aluOp .add .mhl s

/-- `ADD A,A` (R180). -/
def execAddAA (s : State) : Out := aluOp .add (.reg .a) s

/-- `ADC A,B` (R183). -/
def execAdcAB (s : State) : Out := aluOp .adc (.reg .b) s

/-- `ADC A,C` (R183). -/
def execAdcAC (s : State) : Out := aluOp .adc (.reg .c) s

/-- `ADC A,D` (R183). -/
def execAdcAD (s : State) : Out := aluOp .adc (.reg .d) s

/-- `ADC A,E` (R183). -/
def execAdcAE (s : State) : Out := aluOp .adc (.reg .e) s

/-- `ADC A,H` (R183). -/
def execAdcAH (s : State) : Out := aluOp .adc (.reg .h) s

/-- `ADC A,L` (R183). -/
def execAdcAL (s : State) : Out := aluOp .adc (.reg .l) s

/-- `ADC A,(HL)` (R184). -/
def execAdcAMhl (s : State) : Out := aluOp .adc .mhl s

/-- `ADC A,A` (R183). -/
def execAdcAA (s : State) : Out := aluOp .adc (.reg .a) s

/-- `SUB B` (R186). -/
def execSubB (s : State) : Out := aluOp .sub (.reg .b) s

/-- `SUB C` (R186). -/
def execSubC (s : State) : Out := aluOp .sub (.reg .c) s

/-- `SUB D` (R186). -/
def execSubD (s : State) : Out := aluOp .sub (.reg .d) s

/-- `SUB E` (R186). -/
def execSubE (s : State) : Out := aluOp .sub (.reg .e) s

/-- `SUB H` (R186). -/
def execSubH (s : State) : Out := aluOp .sub (.reg .h) s

/-- `SUB L` (R186). -/
def execSubL (s : State) : Out := aluOp .sub (.reg .l) s

/-- `SUB (HL)` (R187). -/
def execSubMhl (s : State) : Out := aluOp .sub .mhl s

/-- `SUB A` (R186). -/
def execSubA (s : State) : Out := aluOp .sub (.reg .a) s

/-- `SBC A,B` (R189). -/
def execSbcAB (s : State) : Out := aluOp .sbc (.reg .b) s

/-- `SBC A,C` (R189). -/
def execSbcAC (s : State) : Out := aluOp .sbc (.reg .c) s

/-- `SBC A,D` (R189). -/
def execSbcAD (s : State) : Out := aluOp .sbc (.reg .d) s

/-- `SBC A,E` (R189). -/
def execSbcAE (s : State) : Out := aluOp .sbc (.reg .e) s

/-- `SBC A,H` (R189). -/
def execSbcAH (s : State) : Out := aluOp .sbc (.reg .h) s

/-- `SBC A,L` (R189). -/
def execSbcAL (s : State) : Out := aluOp .sbc (.reg .l) s

/-- `SBC A,(HL)` (R190). -/
def execSbcAMhl (s : State) : Out := aluOp .sbc .mhl s

/-- `SBC A,A` (R189). -/
def execSbcAA (s : State) : Out := aluOp .sbc (.reg .a) s

/-- `AND B` (R192). -/
def execAndB (s : State) : Out := aluOp .and (.reg .b) s

/-- `AND C` (R192). -/
def execAndC (s : State) : Out := aluOp .and (.reg .c) s

/-- `AND D` (R192). -/
def execAndD (s : State) : Out := aluOp .and (.reg .d) s

/-- `AND E` (R192). -/
def execAndE (s : State) : Out := aluOp .and (.reg .e) s

/-- `AND H` (R192). -/
def execAndH (s : State) : Out := aluOp .and (.reg .h) s

/-- `AND L` (R192). -/
def execAndL (s : State) : Out := aluOp .and (.reg .l) s

/-- `AND (HL)` (R193). -/
def execAndMhl (s : State) : Out := aluOp .and .mhl s

/-- `AND A` (R192). -/
def execAndA (s : State) : Out := aluOp .and (.reg .a) s

/-- `XOR B` (R195). -/
def execXorB (s : State) : Out := aluOp .xor (.reg .b) s

/-- `XOR C` (R195). -/
def execXorC (s : State) : Out := aluOp .xor (.reg .c) s

/-- `XOR D` (R195). -/
def execXorD (s : State) : Out := aluOp .xor (.reg .d) s

/-- `XOR E` (R195). -/
def execXorE (s : State) : Out := aluOp .xor (.reg .e) s

/-- `XOR H` (R195). -/
def execXorH (s : State) : Out := aluOp .xor (.reg .h) s

/-- `XOR L` (R195). -/
def execXorL (s : State) : Out := aluOp .xor (.reg .l) s

/-- `XOR (HL)` (R196). -/
def execXorMhl (s : State) : Out := aluOp .xor .mhl s

/-- `XOR A` (R195). -/
def execXorA (s : State) : Out := aluOp .xor (.reg .a) s

/-- `OR B` (R198). -/
def execOrB (s : State) : Out := aluOp .or (.reg .b) s

/-- `OR C` (R198). -/
def execOrC (s : State) : Out := aluOp .or (.reg .c) s

/-- `OR D` (R198). -/
def execOrD (s : State) : Out := aluOp .or (.reg .d) s

/-- `OR E` (R198). -/
def execOrE (s : State) : Out := aluOp .or (.reg .e) s

/-- `OR H` (R198). -/
def execOrH (s : State) : Out := aluOp .or (.reg .h) s

/-- `OR L` (R198). -/
def execOrL (s : State) : Out := aluOp .or (.reg .l) s

/-- `OR (HL)` (R199). -/
def execOrMhl (s : State) : Out := aluOp .or .mhl s

/-- `OR A` (R198). -/
def execOrA (s : State) : Out := aluOp .or (.reg .a) s

/-- `CP B` (R201). -/
def execCpB (s : State) : Out := aluOp .cp (.reg .b) s

/-- `CP C` (R201). -/
def execCpC (s : State) : Out := aluOp .cp (.reg .c) s

/-- `CP D` (R201). -/
def execCpD (s : State) : Out := aluOp .cp (.reg .d) s

/-- `CP E` (R201). -/
def execCpE (s : State) : Out := aluOp .cp (.reg .e) s

/-- `CP H` (R201). -/
def execCpH (s : State) : Out := aluOp .cp (.reg .h) s

/-- `CP L` (R201). -/
def execCpL (s : State) : Out := aluOp .cp (.reg .l) s

/-- `CP (HL)` (R202). -/
def execCpMhl (s : State) : Out := aluOp .cp .mhl s

/-- `CP A` (R201). -/
def execCpA (s : State) : Out := aluOp .cp (.reg .a) s

/-- `ADD A,d8` (R182). -/
def execAddAD8 (n : Byte) (s : State) : Out := aluOp .add (.imm n) s

/-- `ADC A,d8` (R185). -/
def execAdcAD8 (n : Byte) (s : State) : Out := aluOp .adc (.imm n) s

/-- `SUB d8` (R188). -/
def execSubD8 (n : Byte) (s : State) : Out := aluOp .sub (.imm n) s

/-- `SBC A,d8` (R191). -/
def execSbcAD8 (n : Byte) (s : State) : Out := aluOp .sbc (.imm n) s

/-- `AND d8` (R194). -/
def execAndD8 (n : Byte) (s : State) : Out := aluOp .and (.imm n) s

/-- `XOR d8` (R197). -/
def execXorD8 (n : Byte) (s : State) : Out := aluOp .xor (.imm n) s

/-- `OR d8` (R200). -/
def execOrD8 (n : Byte) (s : State) : Out := aluOp .or (.imm n) s

/-- `CP d8` (R203). -/
def execCpD8 (n : Byte) (s : State) : Out := aluOp .cp (.imm n) s

end Sys2Proof.Machine
end

