-- ==== Sys2Proof/Syntax/Form.lean ====
section
/-! DEFINITION. The instruction forms: one constructor per instruction rule of files 42 to 48 (rules
that differ only in a direction or an operand kind share one). `Instr.form` (Decode.lean) says which
form and operands each row of the opcode table is. -/

namespace Sys2Proof

inductive Form where
  /-- LD r,r' (R140) -/
  | ldRR (d r : Reg)
  /-- LD r,d8 (R141) -/
  | ldRImm (d : Reg) (n : Byte)
  /-- LD r,(HL) (R142) -/
  | ldRHL (d : Reg)
  /-- LD (HL),r (R143) -/
  | ldHLR (r : Reg)
  /-- LD (HL),d8 (R144) -/
  | ldHLImm (n : Byte)
  /-- LD A,(BC), LD A,(DE), LD A,(HL+), LD A,(HL-) (R145, R146, R151, R152) -/
  | ldAInd (m : Ind)
  /-- LD (BC),A, LD (DE),A, LD (HL+),A, LD (HL-),A (R147-R150) -/
  | ldIndA (m : Ind)
  /-- LD (a16),A (R153) -/
  | ldAbsA (a : Word)
  /-- LD A,(a16) (R154) -/
  | ldAAbs (a : Word)
  /-- LDH (a8),A (R155) -/
  | ldhA (n : Byte)
  /-- LDH A,(a8) (R156) -/
  | ldhLoad (n : Byte)
  /-- LD (C),A (R157) -/
  | ldCA
  /-- LD A,(C) (R158) -/
  | ldAC
  /-- LD rr,d16 (R170) -/
  | ldRRImm (p : RR) (v : Word)
  /-- LD (a16),SP (R171) -/
  | ldAbsSP (a : Word)
  /-- LD SP,HL (R172) -/
  | ldSPHL
  /-- LD HL,SP+e8 (R173) -/
  | ldHLSP (n : Byte)
  /-- PUSH rr (R174) -/
  | push (p : StkPair)
  /-- POP rr (R175) -/
  | pop (p : StkPair)
  /-- ADD, ADC, SUB, SBC, AND, XOR, OR, CP (R180-R203) -/
  | alu (op : AluOp) (y : Src)
  /-- INC r, INC (HL) (R204, R205) -/
  | inc8 (o : Opnd)
  /-- DEC r, DEC (HL) (R206, R207) -/
  | dec8 (o : Opnd)
  /-- ADD HL,rr (R220) -/
  | addHL (p : RR)
  /-- INC rr (R221) -/
  | inc16 (p : RR)
  /-- DEC rr (R222) -/
  | dec16 (p : RR)
  /-- ADD SP,e8 (R223) -/
  | addSP (n : Byte)
  /-- RLCA (R230) -/
  | rlca
  /-- RRCA (R231) -/
  | rrca
  /-- RLA (R232) -/
  | rla
  /-- RRA (R233) -/
  | rra
  /-- DAA (R234) -/
  | daa
  /-- CPL (R235) -/
  | cpl
  /-- SCF (R236) -/
  | scf
  /-- CCF (R237) -/
  | ccf
  /-- RLC, RRC, RL, RR, SLA, SRA, SWAP, SRL (R241-R256) -/
  | rot (op : RotOp) (o : Opnd)
  /-- BIT b,r and BIT b,(HL) (R257, R258) -/
  | bit (b : Fin 8) (o : Opnd)
  /-- RES b,r and RES b,(HL) (R259, R260) -/
  | res (b : Fin 8) (o : Opnd)
  /-- SET b,r and SET b,(HL) (R261, R262) -/
  | set (b : Fin 8) (o : Opnd)
  /-- NOP (R270) -/
  | nop
  /-- HALT (R271) -/
  | halt
  /-- STOP and its ignored second byte (R272) -/
  | stop (n : Byte)
  /-- DI (R273) -/
  | di
  /-- EI (R274) -/
  | ei
  /-- JR e8 (R275) -/
  | jr (e : Byte)
  /-- JR cc,e8 (R276) -/
  | jrcc (cc : Cond) (e : Byte)
  /-- JP a16 (R277) -/
  | jp (a : Word)
  /-- JP cc,a16 (R278) -/
  | jpcc (cc : Cond) (a : Word)
  /-- JP HL (R279) -/
  | jphl
  /-- CALL a16 (R280) -/
  | call (a : Word)
  /-- CALL cc,a16 (R281) -/
  | callcc (cc : Cond) (a : Word)
  /-- RET (R282) -/
  | ret
  /-- RET cc (R283) -/
  | retcc (cc : Cond)
  /-- RETI (R284) -/
  | reti
  /-- RST t, with target `t * 8` (R285) -/
  | rst (t : Fin 8)
  /-- An illegal byte (R78, R94) -/
  | illegal (op : Byte)
deriving DecidableEq, Repr

end Sys2Proof
end

