-- ==== Sys2Proof/Syntax.lean ====
section
/-! DEFINITION. The instructions: one constructor per row of spec/opcode_table.json,
with the row's immediate as its argument (30_encoding.md R70, R74): first the rows with an argument,
then the others, each in the table's order (Lean's compiler bounds the number of a constructor that
has arguments). A name is the row's mnemonic in
small letters, with `m` before an operand in parentheses (`(HL)` is `mhl`) and `mhli`, `mhld` for
`(HL+)`, `(HL-)`. The eleven rows "(illegal)" share one constructor, which holds the opcode byte. -/

namespace Sys2Proof

inductive Instr where
  /-- 01, `LD BC,d16` (R170) -/
  | ld_bc_d16 (v : Word)
  /-- 06, `LD B,d8` (R141) -/
  | ld_b_d8 (n : Byte)
  /-- 08, `LD (a16),SP` (R171) -/
  | ld_ma16_sp (a : Word)
  /-- 0E, `LD C,d8` (R141) -/
  | ld_c_d8 (n : Byte)
  /-- 10, `STOP` (R272) -/
  | stop (n : Byte)
  /-- 11, `LD DE,d16` (R170) -/
  | ld_de_d16 (v : Word)
  /-- 16, `LD D,d8` (R141) -/
  | ld_d_d8 (n : Byte)
  /-- 18, `JR e8` (R275) -/
  | jr_e8 (e : Byte)
  /-- 1E, `LD E,d8` (R141) -/
  | ld_e_d8 (n : Byte)
  /-- 20, `JR NZ,e8` (R276) -/
  | jr_nz_e8 (e : Byte)
  /-- 21, `LD HL,d16` (R170) -/
  | ld_hl_d16 (v : Word)
  /-- 26, `LD H,d8` (R141) -/
  | ld_h_d8 (n : Byte)
  /-- 28, `JR Z,e8` (R276) -/
  | jr_z_e8 (e : Byte)
  /-- 2E, `LD L,d8` (R141) -/
  | ld_l_d8 (n : Byte)
  /-- 30, `JR NC,e8` (R276) -/
  | jr_nc_e8 (e : Byte)
  /-- 31, `LD SP,d16` (R170) -/
  | ld_sp_d16 (v : Word)
  /-- 36, `LD (HL),d8` (R144) -/
  | ld_mhl_d8 (n : Byte)
  /-- 38, `JR C,e8` (R276) -/
  | jr_c_e8 (e : Byte)
  /-- 3E, `LD A,d8` (R141) -/
  | ld_a_d8 (n : Byte)
  /-- C2, `JP NZ,a16` (R278) -/
  | jp_nz_a16 (a : Word)
  /-- C3, `JP a16` (R277) -/
  | jp_a16 (a : Word)
  /-- C4, `CALL NZ,a16` (R281) -/
  | call_nz_a16 (a : Word)
  /-- C6, `ADD A,d8` (R182) -/
  | add_a_d8 (n : Byte)
  /-- CA, `JP Z,a16` (R278) -/
  | jp_z_a16 (a : Word)
  /-- CB, `PREFIX CB`: the prefix and the byte after it (R93). The prefixed rows name the
  instruction the two bytes are, so no decoder answers this constructor (assumption log 6). -/
  | prefix_cb (op2 : Byte)
  /-- CC, `CALL Z,a16` (R281) -/
  | call_z_a16 (a : Word)
  /-- CD, `CALL a16` (R280) -/
  | call_a16 (a : Word)
  /-- CE, `ADC A,d8` (R185) -/
  | adc_a_d8 (n : Byte)
  /-- D2, `JP NC,a16` (R278) -/
  | jp_nc_a16 (a : Word)
  /-- D4, `CALL NC,a16` (R281) -/
  | call_nc_a16 (a : Word)
  /-- D6, `SUB d8` (R188) -/
  | sub_d8 (n : Byte)
  /-- DA, `JP C,a16` (R278) -/
  | jp_c_a16 (a : Word)
  /-- DC, `CALL C,a16` (R281) -/
  | call_c_a16 (a : Word)
  /-- DE, `SBC A,d8` (R191) -/
  | sbc_a_d8 (n : Byte)
  /-- E0, `LDH (a8),A` (R155) -/
  | ldh_ma8_a (n : Byte)
  /-- E6, `AND d8` (R194) -/
  | and_d8 (n : Byte)
  /-- E8, `ADD SP,e8` (R223) -/
  | add_sp_e8 (e : Byte)
  /-- EA, `LD (a16),A` (R153) -/
  | ld_ma16_a (a : Word)
  /-- EE, `XOR d8` (R197) -/
  | xor_d8 (n : Byte)
  /-- F0, `LDH A,(a8)` (R156) -/
  | ldh_a_ma8 (n : Byte)
  /-- F6, `OR d8` (R200) -/
  | or_d8 (n : Byte)
  /-- F8, `LD HL,SP+e8` (R173) -/
  | ld_hl_sp_e8 (e : Byte)
  /-- FA, `LD A,(a16)` (R154) -/
  | ld_a_ma16 (a : Word)
  /-- FE, `CP d8` (R203) -/
  | cp_d8 (n : Byte)
  /-- One of D3, DB, DD, E3, E4, EB, EC, ED, F4, FC, FD: no instruction (R78, R94) -/
  | illegal (op : Byte)
  /-- 00, `NOP` (R270) -/
  | nop
  /-- 02, `LD (BC),A` (R147) -/
  | ld_mbc_a
  /-- 03, `INC BC` (R221) -/
  | inc_bc
  /-- 04, `INC B` (R204) -/
  | inc_b
  /-- 05, `DEC B` (R206) -/
  | dec_b
  /-- 07, `RLCA` (R230) -/
  | rlca
  /-- 09, `ADD HL,BC` (R220) -/
  | add_hl_bc
  /-- 0A, `LD A,(BC)` (R145) -/
  | ld_a_mbc
  /-- 0B, `DEC BC` (R222) -/
  | dec_bc
  /-- 0C, `INC C` (R204) -/
  | inc_c
  /-- 0D, `DEC C` (R206) -/
  | dec_c
  /-- 0F, `RRCA` (R231) -/
  | rrca
  /-- 12, `LD (DE),A` (R148) -/
  | ld_mde_a
  /-- 13, `INC DE` (R221) -/
  | inc_de
  /-- 14, `INC D` (R204) -/
  | inc_d
  /-- 15, `DEC D` (R206) -/
  | dec_d
  /-- 17, `RLA` (R232) -/
  | rla
  /-- 19, `ADD HL,DE` (R220) -/
  | add_hl_de
  /-- 1A, `LD A,(DE)` (R146) -/
  | ld_a_mde
  /-- 1B, `DEC DE` (R222) -/
  | dec_de
  /-- 1C, `INC E` (R204) -/
  | inc_e
  /-- 1D, `DEC E` (R206) -/
  | dec_e
  /-- 1F, `RRA` (R233) -/
  | rra
  /-- 22, `LD (HL+),A` (R149) -/
  | ld_mhli_a
  /-- 23, `INC HL` (R221) -/
  | inc_hl
  /-- 24, `INC H` (R204) -/
  | inc_h
  /-- 25, `DEC H` (R206) -/
  | dec_h
  /-- 27, `DAA` (R234) -/
  | daa
  /-- 29, `ADD HL,HL` (R220) -/
  | add_hl_hl
  /-- 2A, `LD A,(HL+)` (R151) -/
  | ld_a_mhli
  /-- 2B, `DEC HL` (R222) -/
  | dec_hl
  /-- 2C, `INC L` (R204) -/
  | inc_l
  /-- 2D, `DEC L` (R206) -/
  | dec_l
  /-- 2F, `CPL` (R235) -/
  | cpl
  /-- 32, `LD (HL-),A` (R150) -/
  | ld_mhld_a
  /-- 33, `INC SP` (R221) -/
  | inc_sp
  /-- 34, `INC (HL)` (R205) -/
  | inc_mhl
  /-- 35, `DEC (HL)` (R207) -/
  | dec_mhl
  /-- 37, `SCF` (R236) -/
  | scf
  /-- 39, `ADD HL,SP` (R220) -/
  | add_hl_sp
  /-- 3A, `LD A,(HL-)` (R152) -/
  | ld_a_mhld
  /-- 3B, `DEC SP` (R222) -/
  | dec_sp
  /-- 3C, `INC A` (R204) -/
  | inc_a
  /-- 3D, `DEC A` (R206) -/
  | dec_a
  /-- 3F, `CCF` (R237) -/
  | ccf
  /-- 40, `LD B,B` (R140) -/
  | ld_b_b
  /-- 41, `LD B,C` (R140) -/
  | ld_b_c
  /-- 42, `LD B,D` (R140) -/
  | ld_b_d
  /-- 43, `LD B,E` (R140) -/
  | ld_b_e
  /-- 44, `LD B,H` (R140) -/
  | ld_b_h
  /-- 45, `LD B,L` (R140) -/
  | ld_b_l
  /-- 46, `LD B,(HL)` (R142) -/
  | ld_b_mhl
  /-- 47, `LD B,A` (R140) -/
  | ld_b_a
  /-- 48, `LD C,B` (R140) -/
  | ld_c_b
  /-- 49, `LD C,C` (R140) -/
  | ld_c_c
  /-- 4A, `LD C,D` (R140) -/
  | ld_c_d
  /-- 4B, `LD C,E` (R140) -/
  | ld_c_e
  /-- 4C, `LD C,H` (R140) -/
  | ld_c_h
  /-- 4D, `LD C,L` (R140) -/
  | ld_c_l
  /-- 4E, `LD C,(HL)` (R142) -/
  | ld_c_mhl
  /-- 4F, `LD C,A` (R140) -/
  | ld_c_a
  /-- 50, `LD D,B` (R140) -/
  | ld_d_b
  /-- 51, `LD D,C` (R140) -/
  | ld_d_c
  /-- 52, `LD D,D` (R140) -/
  | ld_d_d
  /-- 53, `LD D,E` (R140) -/
  | ld_d_e
  /-- 54, `LD D,H` (R140) -/
  | ld_d_h
  /-- 55, `LD D,L` (R140) -/
  | ld_d_l
  /-- 56, `LD D,(HL)` (R142) -/
  | ld_d_mhl
  /-- 57, `LD D,A` (R140) -/
  | ld_d_a
  /-- 58, `LD E,B` (R140) -/
  | ld_e_b
  /-- 59, `LD E,C` (R140) -/
  | ld_e_c
  /-- 5A, `LD E,D` (R140) -/
  | ld_e_d
  /-- 5B, `LD E,E` (R140) -/
  | ld_e_e
  /-- 5C, `LD E,H` (R140) -/
  | ld_e_h
  /-- 5D, `LD E,L` (R140) -/
  | ld_e_l
  /-- 5E, `LD E,(HL)` (R142) -/
  | ld_e_mhl
  /-- 5F, `LD E,A` (R140) -/
  | ld_e_a
  /-- 60, `LD H,B` (R140) -/
  | ld_h_b
  /-- 61, `LD H,C` (R140) -/
  | ld_h_c
  /-- 62, `LD H,D` (R140) -/
  | ld_h_d
  /-- 63, `LD H,E` (R140) -/
  | ld_h_e
  /-- 64, `LD H,H` (R140) -/
  | ld_h_h
  /-- 65, `LD H,L` (R140) -/
  | ld_h_l
  /-- 66, `LD H,(HL)` (R142) -/
  | ld_h_mhl
  /-- 67, `LD H,A` (R140) -/
  | ld_h_a
  /-- 68, `LD L,B` (R140) -/
  | ld_l_b
  /-- 69, `LD L,C` (R140) -/
  | ld_l_c
  /-- 6A, `LD L,D` (R140) -/
  | ld_l_d
  /-- 6B, `LD L,E` (R140) -/
  | ld_l_e
  /-- 6C, `LD L,H` (R140) -/
  | ld_l_h
  /-- 6D, `LD L,L` (R140) -/
  | ld_l_l
  /-- 6E, `LD L,(HL)` (R142) -/
  | ld_l_mhl
  /-- 6F, `LD L,A` (R140) -/
  | ld_l_a
  /-- 70, `LD (HL),B` (R143) -/
  | ld_mhl_b
  /-- 71, `LD (HL),C` (R143) -/
  | ld_mhl_c
  /-- 72, `LD (HL),D` (R143) -/
  | ld_mhl_d
  /-- 73, `LD (HL),E` (R143) -/
  | ld_mhl_e
  /-- 74, `LD (HL),H` (R143) -/
  | ld_mhl_h
  /-- 75, `LD (HL),L` (R143) -/
  | ld_mhl_l
  /-- 76, `HALT` (R271) -/
  | halt
  /-- 77, `LD (HL),A` (R143) -/
  | ld_mhl_a
  /-- 78, `LD A,B` (R140) -/
  | ld_a_b
  /-- 79, `LD A,C` (R140) -/
  | ld_a_c
  /-- 7A, `LD A,D` (R140) -/
  | ld_a_d
  /-- 7B, `LD A,E` (R140) -/
  | ld_a_e
  /-- 7C, `LD A,H` (R140) -/
  | ld_a_h
  /-- 7D, `LD A,L` (R140) -/
  | ld_a_l
  /-- 7E, `LD A,(HL)` (R142) -/
  | ld_a_mhl
  /-- 7F, `LD A,A` (R140) -/
  | ld_a_a
  /-- 80, `ADD A,B` (R180) -/
  | add_a_b
  /-- 81, `ADD A,C` (R180) -/
  | add_a_c
  /-- 82, `ADD A,D` (R180) -/
  | add_a_d
  /-- 83, `ADD A,E` (R180) -/
  | add_a_e
  /-- 84, `ADD A,H` (R180) -/
  | add_a_h
  /-- 85, `ADD A,L` (R180) -/
  | add_a_l
  /-- 86, `ADD A,(HL)` (R181) -/
  | add_a_mhl
  /-- 87, `ADD A,A` (R180) -/
  | add_a_a
  /-- 88, `ADC A,B` (R183) -/
  | adc_a_b
  /-- 89, `ADC A,C` (R183) -/
  | adc_a_c
  /-- 8A, `ADC A,D` (R183) -/
  | adc_a_d
  /-- 8B, `ADC A,E` (R183) -/
  | adc_a_e
  /-- 8C, `ADC A,H` (R183) -/
  | adc_a_h
  /-- 8D, `ADC A,L` (R183) -/
  | adc_a_l
  /-- 8E, `ADC A,(HL)` (R184) -/
  | adc_a_mhl
  /-- 8F, `ADC A,A` (R183) -/
  | adc_a_a
  /-- 90, `SUB B` (R186) -/
  | sub_b
  /-- 91, `SUB C` (R186) -/
  | sub_c
  /-- 92, `SUB D` (R186) -/
  | sub_d
  /-- 93, `SUB E` (R186) -/
  | sub_e
  /-- 94, `SUB H` (R186) -/
  | sub_h
  /-- 95, `SUB L` (R186) -/
  | sub_l
  /-- 96, `SUB (HL)` (R187) -/
  | sub_mhl
  /-- 97, `SUB A` (R186) -/
  | sub_a
  /-- 98, `SBC A,B` (R189) -/
  | sbc_a_b
  /-- 99, `SBC A,C` (R189) -/
  | sbc_a_c
  /-- 9A, `SBC A,D` (R189) -/
  | sbc_a_d
  /-- 9B, `SBC A,E` (R189) -/
  | sbc_a_e
  /-- 9C, `SBC A,H` (R189) -/
  | sbc_a_h
  /-- 9D, `SBC A,L` (R189) -/
  | sbc_a_l
  /-- 9E, `SBC A,(HL)` (R190) -/
  | sbc_a_mhl
  /-- 9F, `SBC A,A` (R189) -/
  | sbc_a_a
  /-- A0, `AND B` (R192) -/
  | and_b
  /-- A1, `AND C` (R192) -/
  | and_c
  /-- A2, `AND D` (R192) -/
  | and_d
  /-- A3, `AND E` (R192) -/
  | and_e
  /-- A4, `AND H` (R192) -/
  | and_h
  /-- A5, `AND L` (R192) -/
  | and_l
  /-- A6, `AND (HL)` (R193) -/
  | and_mhl
  /-- A7, `AND A` (R192) -/
  | and_a
  /-- A8, `XOR B` (R195) -/
  | xor_b
  /-- A9, `XOR C` (R195) -/
  | xor_c
  /-- AA, `XOR D` (R195) -/
  | xor_d
  /-- AB, `XOR E` (R195) -/
  | xor_e
  /-- AC, `XOR H` (R195) -/
  | xor_h
  /-- AD, `XOR L` (R195) -/
  | xor_l
  /-- AE, `XOR (HL)` (R196) -/
  | xor_mhl
  /-- AF, `XOR A` (R195) -/
  | xor_a
  /-- B0, `OR B` (R198) -/
  | or_b
  /-- B1, `OR C` (R198) -/
  | or_c
  /-- B2, `OR D` (R198) -/
  | or_d
  /-- B3, `OR E` (R198) -/
  | or_e
  /-- B4, `OR H` (R198) -/
  | or_h
  /-- B5, `OR L` (R198) -/
  | or_l
  /-- B6, `OR (HL)` (R199) -/
  | or_mhl
  /-- B7, `OR A` (R198) -/
  | or_a
  /-- B8, `CP B` (R201) -/
  | cp_b
  /-- B9, `CP C` (R201) -/
  | cp_c
  /-- BA, `CP D` (R201) -/
  | cp_d
  /-- BB, `CP E` (R201) -/
  | cp_e
  /-- BC, `CP H` (R201) -/
  | cp_h
  /-- BD, `CP L` (R201) -/
  | cp_l
  /-- BE, `CP (HL)` (R202) -/
  | cp_mhl
  /-- BF, `CP A` (R201) -/
  | cp_a
  /-- C0, `RET NZ` (R283) -/
  | ret_nz
  /-- C1, `POP BC` (R175) -/
  | pop_bc
  /-- C5, `PUSH BC` (R174) -/
  | push_bc
  /-- C7, `RST 00H` (R285) -/
  | rst_00h
  /-- C8, `RET Z` (R283) -/
  | ret_z
  /-- C9, `RET` (R282) -/
  | ret
  /-- CF, `RST 08H` (R285) -/
  | rst_08h
  /-- D0, `RET NC` (R283) -/
  | ret_nc
  /-- D1, `POP DE` (R175) -/
  | pop_de
  /-- D5, `PUSH DE` (R174) -/
  | push_de
  /-- D7, `RST 10H` (R285) -/
  | rst_10h
  /-- D8, `RET C` (R283) -/
  | ret_c
  /-- D9, `RETI` (R284) -/
  | reti
  /-- DF, `RST 18H` (R285) -/
  | rst_18h
  /-- E1, `POP HL` (R175) -/
  | pop_hl
  /-- E2, `LD (C),A` (R157) -/
  | ld_mc_a
  /-- E5, `PUSH HL` (R174) -/
  | push_hl
  /-- E7, `RST 20H` (R285) -/
  | rst_20h
  /-- E9, `JP HL` (R279) -/
  | jp_hl
  /-- EF, `RST 28H` (R285) -/
  | rst_28h
  /-- F1, `POP AF` (R175) -/
  | pop_af
  /-- F2, `LD A,(C)` (R158) -/
  | ld_a_mc
  /-- F3, `DI` (R273) -/
  | di
  /-- F5, `PUSH AF` (R174) -/
  | push_af
  /-- F7, `RST 30H` (R285) -/
  | rst_30h
  /-- F9, `LD SP,HL` (R172) -/
  | ld_sp_hl
  /-- FB, `EI` (R274) -/
  | ei
  /-- FF, `RST 38H` (R285) -/
  | rst_38h
  /-- CB 00, `RLC B` (R241) -/
  | rlc_b
  /-- CB 01, `RLC C` (R241) -/
  | rlc_c
  /-- CB 02, `RLC D` (R241) -/
  | rlc_d
  /-- CB 03, `RLC E` (R241) -/
  | rlc_e
  /-- CB 04, `RLC H` (R241) -/
  | rlc_h
  /-- CB 05, `RLC L` (R241) -/
  | rlc_l
  /-- CB 06, `RLC (HL)` (R242) -/
  | rlc_mhl
  /-- CB 07, `RLC A` (R241) -/
  | rlc_a
  /-- CB 08, `RRC B` (R243) -/
  | rrc_b
  /-- CB 09, `RRC C` (R243) -/
  | rrc_c
  /-- CB 0A, `RRC D` (R243) -/
  | rrc_d
  /-- CB 0B, `RRC E` (R243) -/
  | rrc_e
  /-- CB 0C, `RRC H` (R243) -/
  | rrc_h
  /-- CB 0D, `RRC L` (R243) -/
  | rrc_l
  /-- CB 0E, `RRC (HL)` (R244) -/
  | rrc_mhl
  /-- CB 0F, `RRC A` (R243) -/
  | rrc_a
  /-- CB 10, `RL B` (R245) -/
  | rl_b
  /-- CB 11, `RL C` (R245) -/
  | rl_c
  /-- CB 12, `RL D` (R245) -/
  | rl_d
  /-- CB 13, `RL E` (R245) -/
  | rl_e
  /-- CB 14, `RL H` (R245) -/
  | rl_h
  /-- CB 15, `RL L` (R245) -/
  | rl_l
  /-- CB 16, `RL (HL)` (R246) -/
  | rl_mhl
  /-- CB 17, `RL A` (R245) -/
  | rl_a
  /-- CB 18, `RR B` (R247) -/
  | rr_b
  /-- CB 19, `RR C` (R247) -/
  | rr_c
  /-- CB 1A, `RR D` (R247) -/
  | rr_d
  /-- CB 1B, `RR E` (R247) -/
  | rr_e
  /-- CB 1C, `RR H` (R247) -/
  | rr_h
  /-- CB 1D, `RR L` (R247) -/
  | rr_l
  /-- CB 1E, `RR (HL)` (R248) -/
  | rr_mhl
  /-- CB 1F, `RR A` (R247) -/
  | rr_a
  /-- CB 20, `SLA B` (R249) -/
  | sla_b
  /-- CB 21, `SLA C` (R249) -/
  | sla_c
  /-- CB 22, `SLA D` (R249) -/
  | sla_d
  /-- CB 23, `SLA E` (R249) -/
  | sla_e
  /-- CB 24, `SLA H` (R249) -/
  | sla_h
  /-- CB 25, `SLA L` (R249) -/
  | sla_l
  /-- CB 26, `SLA (HL)` (R250) -/
  | sla_mhl
  /-- CB 27, `SLA A` (R249) -/
  | sla_a
  /-- CB 28, `SRA B` (R251) -/
  | sra_b
  /-- CB 29, `SRA C` (R251) -/
  | sra_c
  /-- CB 2A, `SRA D` (R251) -/
  | sra_d
  /-- CB 2B, `SRA E` (R251) -/
  | sra_e
  /-- CB 2C, `SRA H` (R251) -/
  | sra_h
  /-- CB 2D, `SRA L` (R251) -/
  | sra_l
  /-- CB 2E, `SRA (HL)` (R252) -/
  | sra_mhl
  /-- CB 2F, `SRA A` (R251) -/
  | sra_a
  /-- CB 30, `SWAP B` (R253) -/
  | swap_b
  /-- CB 31, `SWAP C` (R253) -/
  | swap_c
  /-- CB 32, `SWAP D` (R253) -/
  | swap_d
  /-- CB 33, `SWAP E` (R253) -/
  | swap_e
  /-- CB 34, `SWAP H` (R253) -/
  | swap_h
  /-- CB 35, `SWAP L` (R253) -/
  | swap_l
  /-- CB 36, `SWAP (HL)` (R254) -/
  | swap_mhl
  /-- CB 37, `SWAP A` (R253) -/
  | swap_a
  /-- CB 38, `SRL B` (R255) -/
  | srl_b
  /-- CB 39, `SRL C` (R255) -/
  | srl_c
  /-- CB 3A, `SRL D` (R255) -/
  | srl_d
  /-- CB 3B, `SRL E` (R255) -/
  | srl_e
  /-- CB 3C, `SRL H` (R255) -/
  | srl_h
  /-- CB 3D, `SRL L` (R255) -/
  | srl_l
  /-- CB 3E, `SRL (HL)` (R256) -/
  | srl_mhl
  /-- CB 3F, `SRL A` (R255) -/
  | srl_a
  /-- CB 40, `BIT 0,B` (R257) -/
  | bit_0_b
  /-- CB 41, `BIT 0,C` (R257) -/
  | bit_0_c
  /-- CB 42, `BIT 0,D` (R257) -/
  | bit_0_d
  /-- CB 43, `BIT 0,E` (R257) -/
  | bit_0_e
  /-- CB 44, `BIT 0,H` (R257) -/
  | bit_0_h
  /-- CB 45, `BIT 0,L` (R257) -/
  | bit_0_l
  /-- CB 46, `BIT 0,(HL)` (R258) -/
  | bit_0_mhl
  /-- CB 47, `BIT 0,A` (R257) -/
  | bit_0_a
  /-- CB 48, `BIT 1,B` (R257) -/
  | bit_1_b
  /-- CB 49, `BIT 1,C` (R257) -/
  | bit_1_c
  /-- CB 4A, `BIT 1,D` (R257) -/
  | bit_1_d
  /-- CB 4B, `BIT 1,E` (R257) -/
  | bit_1_e
  /-- CB 4C, `BIT 1,H` (R257) -/
  | bit_1_h
  /-- CB 4D, `BIT 1,L` (R257) -/
  | bit_1_l
  /-- CB 4E, `BIT 1,(HL)` (R258) -/
  | bit_1_mhl
  /-- CB 4F, `BIT 1,A` (R257) -/
  | bit_1_a
  /-- CB 50, `BIT 2,B` (R257) -/
  | bit_2_b
  /-- CB 51, `BIT 2,C` (R257) -/
  | bit_2_c
  /-- CB 52, `BIT 2,D` (R257) -/
  | bit_2_d
  /-- CB 53, `BIT 2,E` (R257) -/
  | bit_2_e
  /-- CB 54, `BIT 2,H` (R257) -/
  | bit_2_h
  /-- CB 55, `BIT 2,L` (R257) -/
  | bit_2_l
  /-- CB 56, `BIT 2,(HL)` (R258) -/
  | bit_2_mhl
  /-- CB 57, `BIT 2,A` (R257) -/
  | bit_2_a
  /-- CB 58, `BIT 3,B` (R257) -/
  | bit_3_b
  /-- CB 59, `BIT 3,C` (R257) -/
  | bit_3_c
  /-- CB 5A, `BIT 3,D` (R257) -/
  | bit_3_d
  /-- CB 5B, `BIT 3,E` (R257) -/
  | bit_3_e
  /-- CB 5C, `BIT 3,H` (R257) -/
  | bit_3_h
  /-- CB 5D, `BIT 3,L` (R257) -/
  | bit_3_l
  /-- CB 5E, `BIT 3,(HL)` (R258) -/
  | bit_3_mhl
  /-- CB 5F, `BIT 3,A` (R257) -/
  | bit_3_a
  /-- CB 60, `BIT 4,B` (R257) -/
  | bit_4_b
  /-- CB 61, `BIT 4,C` (R257) -/
  | bit_4_c
  /-- CB 62, `BIT 4,D` (R257) -/
  | bit_4_d
  /-- CB 63, `BIT 4,E` (R257) -/
  | bit_4_e
  /-- CB 64, `BIT 4,H` (R257) -/
  | bit_4_h
  /-- CB 65, `BIT 4,L` (R257) -/
  | bit_4_l
  /-- CB 66, `BIT 4,(HL)` (R258) -/
  | bit_4_mhl
  /-- CB 67, `BIT 4,A` (R257) -/
  | bit_4_a
  /-- CB 68, `BIT 5,B` (R257) -/
  | bit_5_b
  /-- CB 69, `BIT 5,C` (R257) -/
  | bit_5_c
  /-- CB 6A, `BIT 5,D` (R257) -/
  | bit_5_d
  /-- CB 6B, `BIT 5,E` (R257) -/
  | bit_5_e
  /-- CB 6C, `BIT 5,H` (R257) -/
  | bit_5_h
  /-- CB 6D, `BIT 5,L` (R257) -/
  | bit_5_l
  /-- CB 6E, `BIT 5,(HL)` (R258) -/
  | bit_5_mhl
  /-- CB 6F, `BIT 5,A` (R257) -/
  | bit_5_a
  /-- CB 70, `BIT 6,B` (R257) -/
  | bit_6_b
  /-- CB 71, `BIT 6,C` (R257) -/
  | bit_6_c
  /-- CB 72, `BIT 6,D` (R257) -/
  | bit_6_d
  /-- CB 73, `BIT 6,E` (R257) -/
  | bit_6_e
  /-- CB 74, `BIT 6,H` (R257) -/
  | bit_6_h
  /-- CB 75, `BIT 6,L` (R257) -/
  | bit_6_l
  /-- CB 76, `BIT 6,(HL)` (R258) -/
  | bit_6_mhl
  /-- CB 77, `BIT 6,A` (R257) -/
  | bit_6_a
  /-- CB 78, `BIT 7,B` (R257) -/
  | bit_7_b
  /-- CB 79, `BIT 7,C` (R257) -/
  | bit_7_c
  /-- CB 7A, `BIT 7,D` (R257) -/
  | bit_7_d
  /-- CB 7B, `BIT 7,E` (R257) -/
  | bit_7_e
  /-- CB 7C, `BIT 7,H` (R257) -/
  | bit_7_h
  /-- CB 7D, `BIT 7,L` (R257) -/
  | bit_7_l
  /-- CB 7E, `BIT 7,(HL)` (R258) -/
  | bit_7_mhl
  /-- CB 7F, `BIT 7,A` (R257) -/
  | bit_7_a
  /-- CB 80, `RES 0,B` (R259) -/
  | res_0_b
  /-- CB 81, `RES 0,C` (R259) -/
  | res_0_c
  /-- CB 82, `RES 0,D` (R259) -/
  | res_0_d
  /-- CB 83, `RES 0,E` (R259) -/
  | res_0_e
  /-- CB 84, `RES 0,H` (R259) -/
  | res_0_h
  /-- CB 85, `RES 0,L` (R259) -/
  | res_0_l
  /-- CB 86, `RES 0,(HL)` (R260) -/
  | res_0_mhl
  /-- CB 87, `RES 0,A` (R259) -/
  | res_0_a
  /-- CB 88, `RES 1,B` (R259) -/
  | res_1_b
  /-- CB 89, `RES 1,C` (R259) -/
  | res_1_c
  /-- CB 8A, `RES 1,D` (R259) -/
  | res_1_d
  /-- CB 8B, `RES 1,E` (R259) -/
  | res_1_e
  /-- CB 8C, `RES 1,H` (R259) -/
  | res_1_h
  /-- CB 8D, `RES 1,L` (R259) -/
  | res_1_l
  /-- CB 8E, `RES 1,(HL)` (R260) -/
  | res_1_mhl
  /-- CB 8F, `RES 1,A` (R259) -/
  | res_1_a
  /-- CB 90, `RES 2,B` (R259) -/
  | res_2_b
  /-- CB 91, `RES 2,C` (R259) -/
  | res_2_c
  /-- CB 92, `RES 2,D` (R259) -/
  | res_2_d
  /-- CB 93, `RES 2,E` (R259) -/
  | res_2_e
  /-- CB 94, `RES 2,H` (R259) -/
  | res_2_h
  /-- CB 95, `RES 2,L` (R259) -/
  | res_2_l
  /-- CB 96, `RES 2,(HL)` (R260) -/
  | res_2_mhl
  /-- CB 97, `RES 2,A` (R259) -/
  | res_2_a
  /-- CB 98, `RES 3,B` (R259) -/
  | res_3_b
  /-- CB 99, `RES 3,C` (R259) -/
  | res_3_c
  /-- CB 9A, `RES 3,D` (R259) -/
  | res_3_d
  /-- CB 9B, `RES 3,E` (R259) -/
  | res_3_e
  /-- CB 9C, `RES 3,H` (R259) -/
  | res_3_h
  /-- CB 9D, `RES 3,L` (R259) -/
  | res_3_l
  /-- CB 9E, `RES 3,(HL)` (R260) -/
  | res_3_mhl
  /-- CB 9F, `RES 3,A` (R259) -/
  | res_3_a
  /-- CB A0, `RES 4,B` (R259) -/
  | res_4_b
  /-- CB A1, `RES 4,C` (R259) -/
  | res_4_c
  /-- CB A2, `RES 4,D` (R259) -/
  | res_4_d
  /-- CB A3, `RES 4,E` (R259) -/
  | res_4_e
  /-- CB A4, `RES 4,H` (R259) -/
  | res_4_h
  /-- CB A5, `RES 4,L` (R259) -/
  | res_4_l
  /-- CB A6, `RES 4,(HL)` (R260) -/
  | res_4_mhl
  /-- CB A7, `RES 4,A` (R259) -/
  | res_4_a
  /-- CB A8, `RES 5,B` (R259) -/
  | res_5_b
  /-- CB A9, `RES 5,C` (R259) -/
  | res_5_c
  /-- CB AA, `RES 5,D` (R259) -/
  | res_5_d
  /-- CB AB, `RES 5,E` (R259) -/
  | res_5_e
  /-- CB AC, `RES 5,H` (R259) -/
  | res_5_h
  /-- CB AD, `RES 5,L` (R259) -/
  | res_5_l
  /-- CB AE, `RES 5,(HL)` (R260) -/
  | res_5_mhl
  /-- CB AF, `RES 5,A` (R259) -/
  | res_5_a
  /-- CB B0, `RES 6,B` (R259) -/
  | res_6_b
  /-- CB B1, `RES 6,C` (R259) -/
  | res_6_c
  /-- CB B2, `RES 6,D` (R259) -/
  | res_6_d
  /-- CB B3, `RES 6,E` (R259) -/
  | res_6_e
  /-- CB B4, `RES 6,H` (R259) -/
  | res_6_h
  /-- CB B5, `RES 6,L` (R259) -/
  | res_6_l
  /-- CB B6, `RES 6,(HL)` (R260) -/
  | res_6_mhl
  /-- CB B7, `RES 6,A` (R259) -/
  | res_6_a
  /-- CB B8, `RES 7,B` (R259) -/
  | res_7_b
  /-- CB B9, `RES 7,C` (R259) -/
  | res_7_c
  /-- CB BA, `RES 7,D` (R259) -/
  | res_7_d
  /-- CB BB, `RES 7,E` (R259) -/
  | res_7_e
  /-- CB BC, `RES 7,H` (R259) -/
  | res_7_h
  /-- CB BD, `RES 7,L` (R259) -/
  | res_7_l
  /-- CB BE, `RES 7,(HL)` (R260) -/
  | res_7_mhl
  /-- CB BF, `RES 7,A` (R259) -/
  | res_7_a
  /-- CB C0, `SET 0,B` (R261) -/
  | set_0_b
  /-- CB C1, `SET 0,C` (R261) -/
  | set_0_c
  /-- CB C2, `SET 0,D` (R261) -/
  | set_0_d
  /-- CB C3, `SET 0,E` (R261) -/
  | set_0_e
  /-- CB C4, `SET 0,H` (R261) -/
  | set_0_h
  /-- CB C5, `SET 0,L` (R261) -/
  | set_0_l
  /-- CB C6, `SET 0,(HL)` (R262) -/
  | set_0_mhl
  /-- CB C7, `SET 0,A` (R261) -/
  | set_0_a
  /-- CB C8, `SET 1,B` (R261) -/
  | set_1_b
  /-- CB C9, `SET 1,C` (R261) -/
  | set_1_c
  /-- CB CA, `SET 1,D` (R261) -/
  | set_1_d
  /-- CB CB, `SET 1,E` (R261) -/
  | set_1_e
  /-- CB CC, `SET 1,H` (R261) -/
  | set_1_h
  /-- CB CD, `SET 1,L` (R261) -/
  | set_1_l
  /-- CB CE, `SET 1,(HL)` (R262) -/
  | set_1_mhl
  /-- CB CF, `SET 1,A` (R261) -/
  | set_1_a
  /-- CB D0, `SET 2,B` (R261) -/
  | set_2_b
  /-- CB D1, `SET 2,C` (R261) -/
  | set_2_c
  /-- CB D2, `SET 2,D` (R261) -/
  | set_2_d
  /-- CB D3, `SET 2,E` (R261) -/
  | set_2_e
  /-- CB D4, `SET 2,H` (R261) -/
  | set_2_h
  /-- CB D5, `SET 2,L` (R261) -/
  | set_2_l
  /-- CB D6, `SET 2,(HL)` (R262) -/
  | set_2_mhl
  /-- CB D7, `SET 2,A` (R261) -/
  | set_2_a
  /-- CB D8, `SET 3,B` (R261) -/
  | set_3_b
  /-- CB D9, `SET 3,C` (R261) -/
  | set_3_c
  /-- CB DA, `SET 3,D` (R261) -/
  | set_3_d
  /-- CB DB, `SET 3,E` (R261) -/
  | set_3_e
  /-- CB DC, `SET 3,H` (R261) -/
  | set_3_h
  /-- CB DD, `SET 3,L` (R261) -/
  | set_3_l
  /-- CB DE, `SET 3,(HL)` (R262) -/
  | set_3_mhl
  /-- CB DF, `SET 3,A` (R261) -/
  | set_3_a
  /-- CB E0, `SET 4,B` (R261) -/
  | set_4_b
  /-- CB E1, `SET 4,C` (R261) -/
  | set_4_c
  /-- CB E2, `SET 4,D` (R261) -/
  | set_4_d
  /-- CB E3, `SET 4,E` (R261) -/
  | set_4_e
  /-- CB E4, `SET 4,H` (R261) -/
  | set_4_h
  /-- CB E5, `SET 4,L` (R261) -/
  | set_4_l
  /-- CB E6, `SET 4,(HL)` (R262) -/
  | set_4_mhl
  /-- CB E7, `SET 4,A` (R261) -/
  | set_4_a
  /-- CB E8, `SET 5,B` (R261) -/
  | set_5_b
  /-- CB E9, `SET 5,C` (R261) -/
  | set_5_c
  /-- CB EA, `SET 5,D` (R261) -/
  | set_5_d
  /-- CB EB, `SET 5,E` (R261) -/
  | set_5_e
  /-- CB EC, `SET 5,H` (R261) -/
  | set_5_h
  /-- CB ED, `SET 5,L` (R261) -/
  | set_5_l
  /-- CB EE, `SET 5,(HL)` (R262) -/
  | set_5_mhl
  /-- CB EF, `SET 5,A` (R261) -/
  | set_5_a
  /-- CB F0, `SET 6,B` (R261) -/
  | set_6_b
  /-- CB F1, `SET 6,C` (R261) -/
  | set_6_c
  /-- CB F2, `SET 6,D` (R261) -/
  | set_6_d
  /-- CB F3, `SET 6,E` (R261) -/
  | set_6_e
  /-- CB F4, `SET 6,H` (R261) -/
  | set_6_h
  /-- CB F5, `SET 6,L` (R261) -/
  | set_6_l
  /-- CB F6, `SET 6,(HL)` (R262) -/
  | set_6_mhl
  /-- CB F7, `SET 6,A` (R261) -/
  | set_6_a
  /-- CB F8, `SET 7,B` (R261) -/
  | set_7_b
  /-- CB F9, `SET 7,C` (R261) -/
  | set_7_c
  /-- CB FA, `SET 7,D` (R261) -/
  | set_7_d
  /-- CB FB, `SET 7,E` (R261) -/
  | set_7_e
  /-- CB FC, `SET 7,H` (R261) -/
  | set_7_h
  /-- CB FD, `SET 7,L` (R261) -/
  | set_7_l
  /-- CB FE, `SET 7,(HL)` (R262) -/
  | set_7_mhl
  /-- CB FF, `SET 7,A` (R261) -/
  | set_7_a
deriving DecidableEq, Repr

end Sys2Proof
end

