-- ==== Sys2Proof/WellFormed.lean ====
section
/-! DEFINITION. Which terms of `Instr` are instructions the opcode table encodes. Every operand of a row
is exactly as wide as its field, so two checks remain: an illegal row holds one of the eleven bytes
of 30_encoding.md R78, and the prefix byte alone is no instruction (40_engine.md R93). -/

namespace Sys2Proof

/-- The eleven bytes that encode no instruction (R78). -/
def illegalBytes : List Byte :=
  [0xD3#8, 0xDB#8, 0xDD#8, 0xE3#8, 0xE4#8, 0xEB#8, 0xEC#8, 0xED#8, 0xF4#8, 0xFC#8, 0xFD#8]

/-- The term is what some bytes decode to. -/
def Instr.wellFormed : Instr → Bool
  | .illegal op => illegalBytes.contains op
  | .prefix_cb _ => false
  | _ => true

end Sys2Proof
end

