-- ==== Sys2Proof/Decode.lean ====
section
/-! DEFINITION. The decoder, from the opcode maps of 30_encoding.md R75 and R76, and after it the encoder,
from the encoding patterns of the instruction rules (files 42 to 48). The two are written from
different tables of the spec, so that their agreement checks both. -/

namespace Sys2Proof

/-! ### The opcode maps -/

/-- What an opcode byte starts: an instruction of its own, one that takes a byte or a little-endian
word (R70, R74), the prefixed space, or nothing (R78). -/
inductive Entry where
  | op (i : Instr)
  | imm8 (f : Byte → Instr)
  | imm16 (f : Word → Instr)
  | cb
  | illegal

/-- Opcodes 0x00 to 0x0F (R75). -/
def row0 : List Entry :=
  [.op .nop, .imm16 .ld_bc_d16, .op .ld_mbc_a, .op .inc_bc, .op .inc_b, .op .dec_b,
   .imm8 .ld_b_d8, .op .rlca, .imm16 .ld_ma16_sp, .op .add_hl_bc, .op .ld_a_mbc, .op .dec_bc,
   .op .inc_c, .op .dec_c, .imm8 .ld_c_d8, .op .rrca]

/-- Opcodes 0x10 to 0x1F (R75). -/
def row1 : List Entry :=
  [.imm8 .stop, .imm16 .ld_de_d16, .op .ld_mde_a, .op .inc_de, .op .inc_d, .op .dec_d,
   .imm8 .ld_d_d8, .op .rla, .imm8 .jr_e8, .op .add_hl_de, .op .ld_a_mde, .op .dec_de, .op .inc_e,
   .op .dec_e, .imm8 .ld_e_d8, .op .rra]

/-- Opcodes 0x20 to 0x2F (R75). -/
def row2 : List Entry :=
  [.imm8 .jr_nz_e8, .imm16 .ld_hl_d16, .op .ld_mhli_a, .op .inc_hl, .op .inc_h, .op .dec_h,
   .imm8 .ld_h_d8, .op .daa, .imm8 .jr_z_e8, .op .add_hl_hl, .op .ld_a_mhli, .op .dec_hl,
   .op .inc_l, .op .dec_l, .imm8 .ld_l_d8, .op .cpl]

/-- Opcodes 0x30 to 0x3F (R75). -/
def row3 : List Entry :=
  [.imm8 .jr_nc_e8, .imm16 .ld_sp_d16, .op .ld_mhld_a, .op .inc_sp, .op .inc_mhl, .op .dec_mhl,
   .imm8 .ld_mhl_d8, .op .scf, .imm8 .jr_c_e8, .op .add_hl_sp, .op .ld_a_mhld, .op .dec_sp,
   .op .inc_a, .op .dec_a, .imm8 .ld_a_d8, .op .ccf]

/-- Opcodes 0x40 to 0x4F (R75). -/
def row4 : List Entry :=
  [.op .ld_b_b, .op .ld_b_c, .op .ld_b_d, .op .ld_b_e, .op .ld_b_h, .op .ld_b_l, .op .ld_b_mhl,
   .op .ld_b_a, .op .ld_c_b, .op .ld_c_c, .op .ld_c_d, .op .ld_c_e, .op .ld_c_h, .op .ld_c_l,
   .op .ld_c_mhl, .op .ld_c_a]

/-- Opcodes 0x50 to 0x5F (R75). -/
def row5 : List Entry :=
  [.op .ld_d_b, .op .ld_d_c, .op .ld_d_d, .op .ld_d_e, .op .ld_d_h, .op .ld_d_l, .op .ld_d_mhl,
   .op .ld_d_a, .op .ld_e_b, .op .ld_e_c, .op .ld_e_d, .op .ld_e_e, .op .ld_e_h, .op .ld_e_l,
   .op .ld_e_mhl, .op .ld_e_a]

/-- Opcodes 0x60 to 0x6F (R75). -/
def row6 : List Entry :=
  [.op .ld_h_b, .op .ld_h_c, .op .ld_h_d, .op .ld_h_e, .op .ld_h_h, .op .ld_h_l, .op .ld_h_mhl,
   .op .ld_h_a, .op .ld_l_b, .op .ld_l_c, .op .ld_l_d, .op .ld_l_e, .op .ld_l_h, .op .ld_l_l,
   .op .ld_l_mhl, .op .ld_l_a]

/-- Opcodes 0x70 to 0x7F (R75). -/
def row7 : List Entry :=
  [.op .ld_mhl_b, .op .ld_mhl_c, .op .ld_mhl_d, .op .ld_mhl_e, .op .ld_mhl_h, .op .ld_mhl_l,
   .op .halt, .op .ld_mhl_a, .op .ld_a_b, .op .ld_a_c, .op .ld_a_d, .op .ld_a_e, .op .ld_a_h,
   .op .ld_a_l, .op .ld_a_mhl, .op .ld_a_a]

/-- Opcodes 0x80 to 0x8F (R75). -/
def row8 : List Entry :=
  [.op .add_a_b, .op .add_a_c, .op .add_a_d, .op .add_a_e, .op .add_a_h, .op .add_a_l,
   .op .add_a_mhl, .op .add_a_a, .op .adc_a_b, .op .adc_a_c, .op .adc_a_d, .op .adc_a_e,
   .op .adc_a_h, .op .adc_a_l, .op .adc_a_mhl, .op .adc_a_a]

/-- Opcodes 0x90 to 0x9F (R75). -/
def row9 : List Entry :=
  [.op .sub_b, .op .sub_c, .op .sub_d, .op .sub_e, .op .sub_h, .op .sub_l, .op .sub_mhl,
   .op .sub_a, .op .sbc_a_b, .op .sbc_a_c, .op .sbc_a_d, .op .sbc_a_e, .op .sbc_a_h, .op .sbc_a_l,
   .op .sbc_a_mhl, .op .sbc_a_a]

/-- Opcodes 0xA0 to 0xAF (R75). -/
def rowA : List Entry :=
  [.op .and_b, .op .and_c, .op .and_d, .op .and_e, .op .and_h, .op .and_l, .op .and_mhl,
   .op .and_a, .op .xor_b, .op .xor_c, .op .xor_d, .op .xor_e, .op .xor_h, .op .xor_l,
   .op .xor_mhl, .op .xor_a]

/-- Opcodes 0xB0 to 0xBF (R75). -/
def rowB : List Entry :=
  [.op .or_b, .op .or_c, .op .or_d, .op .or_e, .op .or_h, .op .or_l, .op .or_mhl, .op .or_a,
   .op .cp_b, .op .cp_c, .op .cp_d, .op .cp_e, .op .cp_h, .op .cp_l, .op .cp_mhl, .op .cp_a]

/-- Opcodes 0xC0 to 0xCF (R75). -/
def rowC : List Entry :=
  [.op .ret_nz, .op .pop_bc, .imm16 .jp_nz_a16, .imm16 .jp_a16, .imm16 .call_nz_a16, .op .push_bc,
   .imm8 .add_a_d8, .op .rst_00h, .op .ret_z, .op .ret, .imm16 .jp_z_a16, .cb, .imm16 .call_z_a16,
   .imm16 .call_a16, .imm8 .adc_a_d8, .op .rst_08h]

/-- Opcodes 0xD0 to 0xDF (R75). -/
def rowD : List Entry :=
  [.op .ret_nc, .op .pop_de, .imm16 .jp_nc_a16, .illegal, .imm16 .call_nc_a16, .op .push_de,
   .imm8 .sub_d8, .op .rst_10h, .op .ret_c, .op .reti, .imm16 .jp_c_a16, .illegal,
   .imm16 .call_c_a16, .illegal, .imm8 .sbc_a_d8, .op .rst_18h]

/-- Opcodes 0xE0 to 0xEF (R75). -/
def rowE : List Entry :=
  [.imm8 .ldh_ma8_a, .op .pop_hl, .op .ld_mc_a, .illegal, .illegal, .op .push_hl, .imm8 .and_d8,
   .op .rst_20h, .imm8 .add_sp_e8, .op .jp_hl, .imm16 .ld_ma16_a, .illegal, .illegal, .illegal,
   .imm8 .xor_d8, .op .rst_28h]

/-- Opcodes 0xF0 to 0xFF (R75). -/
def rowF : List Entry :=
  [.imm8 .ldh_a_ma8, .op .pop_af, .op .ld_a_mc, .op .di, .illegal, .op .push_af, .imm8 .or_d8,
   .op .rst_30h, .imm8 .ld_hl_sp_e8, .op .ld_sp_hl, .imm16 .ld_a_ma16, .op .ei, .illegal,
   .illegal, .imm8 .cp_d8, .op .rst_38h]

/-- CB 00 to CB 0F (R76). -/
def cbRow0 : List Instr :=
  [.rlc_b, .rlc_c, .rlc_d, .rlc_e, .rlc_h, .rlc_l, .rlc_mhl, .rlc_a, .rrc_b, .rrc_c, .rrc_d,
   .rrc_e, .rrc_h, .rrc_l, .rrc_mhl, .rrc_a]

/-- CB 10 to CB 1F (R76). -/
def cbRow1 : List Instr :=
  [.rl_b, .rl_c, .rl_d, .rl_e, .rl_h, .rl_l, .rl_mhl, .rl_a, .rr_b, .rr_c, .rr_d, .rr_e, .rr_h,
   .rr_l, .rr_mhl, .rr_a]

/-- CB 20 to CB 2F (R76). -/
def cbRow2 : List Instr :=
  [.sla_b, .sla_c, .sla_d, .sla_e, .sla_h, .sla_l, .sla_mhl, .sla_a, .sra_b, .sra_c, .sra_d,
   .sra_e, .sra_h, .sra_l, .sra_mhl, .sra_a]

/-- CB 30 to CB 3F (R76). -/
def cbRow3 : List Instr :=
  [.swap_b, .swap_c, .swap_d, .swap_e, .swap_h, .swap_l, .swap_mhl, .swap_a, .srl_b, .srl_c,
   .srl_d, .srl_e, .srl_h, .srl_l, .srl_mhl, .srl_a]

/-- CB 40 to CB 4F (R76). -/
def cbRow4 : List Instr :=
  [.bit_0_b, .bit_0_c, .bit_0_d, .bit_0_e, .bit_0_h, .bit_0_l, .bit_0_mhl, .bit_0_a, .bit_1_b,
   .bit_1_c, .bit_1_d, .bit_1_e, .bit_1_h, .bit_1_l, .bit_1_mhl, .bit_1_a]

/-- CB 50 to CB 5F (R76). -/
def cbRow5 : List Instr :=
  [.bit_2_b, .bit_2_c, .bit_2_d, .bit_2_e, .bit_2_h, .bit_2_l, .bit_2_mhl, .bit_2_a, .bit_3_b,
   .bit_3_c, .bit_3_d, .bit_3_e, .bit_3_h, .bit_3_l, .bit_3_mhl, .bit_3_a]

/-- CB 60 to CB 6F (R76). -/
def cbRow6 : List Instr :=
  [.bit_4_b, .bit_4_c, .bit_4_d, .bit_4_e, .bit_4_h, .bit_4_l, .bit_4_mhl, .bit_4_a, .bit_5_b,
   .bit_5_c, .bit_5_d, .bit_5_e, .bit_5_h, .bit_5_l, .bit_5_mhl, .bit_5_a]

/-- CB 70 to CB 7F (R76). -/
def cbRow7 : List Instr :=
  [.bit_6_b, .bit_6_c, .bit_6_d, .bit_6_e, .bit_6_h, .bit_6_l, .bit_6_mhl, .bit_6_a, .bit_7_b,
   .bit_7_c, .bit_7_d, .bit_7_e, .bit_7_h, .bit_7_l, .bit_7_mhl, .bit_7_a]

/-- CB 80 to CB 8F (R76). -/
def cbRow8 : List Instr :=
  [.res_0_b, .res_0_c, .res_0_d, .res_0_e, .res_0_h, .res_0_l, .res_0_mhl, .res_0_a, .res_1_b,
   .res_1_c, .res_1_d, .res_1_e, .res_1_h, .res_1_l, .res_1_mhl, .res_1_a]

/-- CB 90 to CB 9F (R76). -/
def cbRow9 : List Instr :=
  [.res_2_b, .res_2_c, .res_2_d, .res_2_e, .res_2_h, .res_2_l, .res_2_mhl, .res_2_a, .res_3_b,
   .res_3_c, .res_3_d, .res_3_e, .res_3_h, .res_3_l, .res_3_mhl, .res_3_a]

/-- CB A0 to CB AF (R76). -/
def cbRowA : List Instr :=
  [.res_4_b, .res_4_c, .res_4_d, .res_4_e, .res_4_h, .res_4_l, .res_4_mhl, .res_4_a, .res_5_b,
   .res_5_c, .res_5_d, .res_5_e, .res_5_h, .res_5_l, .res_5_mhl, .res_5_a]

/-- CB B0 to CB BF (R76). -/
def cbRowB : List Instr :=
  [.res_6_b, .res_6_c, .res_6_d, .res_6_e, .res_6_h, .res_6_l, .res_6_mhl, .res_6_a, .res_7_b,
   .res_7_c, .res_7_d, .res_7_e, .res_7_h, .res_7_l, .res_7_mhl, .res_7_a]

/-- CB C0 to CB CF (R76). -/
def cbRowC : List Instr :=
  [.set_0_b, .set_0_c, .set_0_d, .set_0_e, .set_0_h, .set_0_l, .set_0_mhl, .set_0_a, .set_1_b,
   .set_1_c, .set_1_d, .set_1_e, .set_1_h, .set_1_l, .set_1_mhl, .set_1_a]

/-- CB D0 to CB DF (R76). -/
def cbRowD : List Instr :=
  [.set_2_b, .set_2_c, .set_2_d, .set_2_e, .set_2_h, .set_2_l, .set_2_mhl, .set_2_a, .set_3_b,
   .set_3_c, .set_3_d, .set_3_e, .set_3_h, .set_3_l, .set_3_mhl, .set_3_a]

/-- CB E0 to CB EF (R76). -/
def cbRowE : List Instr :=
  [.set_4_b, .set_4_c, .set_4_d, .set_4_e, .set_4_h, .set_4_l, .set_4_mhl, .set_4_a, .set_5_b,
   .set_5_c, .set_5_d, .set_5_e, .set_5_h, .set_5_l, .set_5_mhl, .set_5_a]

/-- CB F0 to CB FF (R76). -/
def cbRowF : List Instr :=
  [.set_6_b, .set_6_c, .set_6_d, .set_6_e, .set_6_h, .set_6_l, .set_6_mhl, .set_6_a, .set_7_b,
   .set_7_c, .set_7_d, .set_7_e, .set_7_h, .set_7_l, .set_7_mhl, .set_7_a]

/-- The unprefixed opcode map (R75), a row per high nibble. -/
def unprefixedMap : List (List Entry) :=
  [row0, row1, row2, row3, row4, row5, row6, row7, row8, row9, rowA, rowB, rowC, rowD, rowE, rowF]

/-- The prefixed map (R76). -/
def prefixedMap : List (List Instr) :=
  [cbRow0, cbRow1, cbRow2, cbRow3, cbRow4, cbRow5, cbRow6, cbRow7, cbRow8, cbRow9, cbRowA, cbRowB,
    cbRowC, cbRowD, cbRowE, cbRowF]

/-- The descriptor of an opcode byte (R93: dispatch is "a total function from `u8`"). -/
def opcodeEntry (op : Byte) : Entry :=
  (unprefixedMap.getD (op.toNat / 16) []).getD (op.toNat % 16) .illegal

/-- The instruction of the prefixed row `op2`: all 256 are defined (R76). -/
def prefixedRow (op2 : Byte) : Instr :=
  (prefixedMap.getD (op2.toNat / 16) []).getD (op2.toNat % 16) (.illegal op2)

/-! ### The decoder -/

/-- Why a list of bytes is no instruction: it ends inside one. (A byte that encodes no instruction is
not such a reason: it is decoded to `Instr.illegal`, a row of the opcode table.) -/
inductive Reject where
  /-- There is no opcode byte. -/
  | noOpcode
  /-- The bytes end before the immediate of `op` is complete. -/
  | immediateMissing (op : Byte)
  /-- The bytes end after the prefix 0xCB. -/
  | prefixedByteMissing
deriving DecidableEq, Repr

/-- The instruction at the head of a list of bytes, in fetch order, and the bytes after it. -/
def decode : List Byte → Except Reject (Instr × List Byte)
  | [] => .error .noOpcode
  | op :: rest =>
    match opcodeEntry op, rest with
    | .op i, rest => .ok (i, rest)
    | .imm8 f, n :: rest => .ok (f n, rest)
    | .imm8 _, [] => .error (.immediateMissing op)
    | .imm16 f, lo :: hi :: rest => .ok (f (wordOf hi lo), rest)
    | .imm16 _, _ => .error (.immediateMissing op)
    | .cb, op2 :: rest => .ok (prefixedRow op2, rest)
    | .cb, [] => .error .prefixedByteMissing
    | .illegal, rest => .ok (.illegal op, rest)

/-- The bytes, in fetch order, of an instruction whose bits the opcode table gives as `w`, up to the
longest instruction (three bytes), the bits above `nbits` being zero. A row of two bytes has 0xCB in
bits 15..8 and `op2` in bits 7..0 (R75: `(0xCB << 8 | op2) & 0xFFFF = match`); every other row is its
opcode byte in bits 7..0, and bytes after it lie in the bits above it (assumption log 7). -/
def tableBytes (nbits w : Nat) : List Byte :=
  let v := w % 2 ^ nbits
  if 8 < nbits ∧ v / 256 = 0xCB then [0xCB#8, BitVec.ofNat 8 v, 0#8]
  else [BitVec.ofNat 8 v, BitVec.ofNat 8 (v / 256), BitVec.ofNat 8 (v / 65536)]

/-- What the decoder reads from a word of the opcode table. -/
def decodeTableWord (nbits w : Nat) : Option Instr :=
  match decode (tableBytes nbits w) with
  | .ok r => some r.1
  | .error _ => none

/-! ### Fields and operand codes -/

/-- The field `x` of an opcode byte (R71). -/
def xField (op : Byte) : Nat := op.toNat / 64

/-- The field `y` (R71). -/
def yField (op : Byte) : Fin 8 := Fin.ofNat 8 (op.toNat / 8)

/-- The field `z` (R71). -/
def zField (op : Byte) : Fin 8 := Fin.ofNat 8 op.toNat

/-- An opcode byte from its fields `x`, `y`, `z` (R71). -/
def opXYZ (x y z : Nat) : Byte := BitVec.ofNat 8 (x * 64 + y * 8 + z)

/-- An opcode byte from its fields `x`, `p`, `q`, `z` (R71). -/
def opXPQZ (x p q z : Nat) : Byte := opXYZ x (p * 2 + q) z

/-- The code of a register in the `r8` table (R72). -/
def Reg.code : Reg → Nat
  | .b => 0
  | .c => 1
  | .d => 2
  | .e => 3
  | .h => 4
  | .l => 5
  | .a => 7

/-- The code of an operand `r8[z]`: `(HL)` is code 6 (R72). -/
def Opnd.code : Opnd → Nat
  | .reg r => r.code
  | .mhl => 6

/-- `r8[z]` (R72). -/
def opndOfCode : Fin 8 → Opnd
  | 0 => .reg .b
  | 1 => .reg .c
  | 2 => .reg .d
  | 3 => .reg .e
  | 4 => .reg .h
  | 5 => .reg .l
  | 6 => .mhl
  | 7 => .reg .a

/-- The code `p` in the `rr` table (R72). -/
def RR.code : RR → Nat
  | .bc => 0
  | .de => 1
  | .hl => 2
  | .sp => 3

/-- The code `p` in the `rr_stk` table (R72). -/
def StkPair.code : StkPair → Nat
  | .bc => 0
  | .de => 1
  | .hl => 2
  | .af => 3

/-- The code `p` in the `rr_ind` table (R72). -/
def Ind.code : Ind → Nat
  | .bc => 0
  | .de => 1
  | .hlInc => 2
  | .hlDec => 3

/-- The code `cc` (R73). -/
def Cond.code : Cond → Nat
  | .nz => 0
  | .z => 1
  | .nc => 2
  | .c => 3

/-- The operation code `ooo` of 44_alu8.md. -/
def AluOp.code : AluOp → Nat
  | .add => 0
  | .adc => 1
  | .sub => 2
  | .sbc => 3
  | .and => 4
  | .xor => 5
  | .or => 6
  | .cp => 7

/-- The index of an operation in ROT (R76). -/
def RotOp.code : RotOp → Nat
  | .rlc => 0
  | .rrc => 1
  | .rl => 2
  | .rr => 3
  | .sla => 4
  | .sra => 5
  | .swap => 6
  | .srl => 7

/-- `ROT[y]` (R76). -/
def rotOfCode : Fin 8 → RotOp
  | 0 => .rlc
  | 1 => .rrc
  | 2 => .rl
  | 3 => .rr
  | 4 => .sla
  | 5 => .sra
  | 6 => .swap
  | 7 => .srl

/-- The form of the prefixed row `op2`, by its fields (R76, R240). -/
def cbForm (op2 : Byte) : Form :=
  let o := opndOfCode (zField op2)
  match xField op2 with
  | 0 => .rot (rotOfCode (yField op2)) o
  | 1 => .bit (yField op2) o
  | 2 => .res (yField op2) o
  | _ => .set (yField op2) o

/-! ### The form of each row -/

/-- The form and operands of each row of the opcode table. -/
def Instr.form : Instr → Form
  | .nop => .nop
  | .ld_bc_d16 v => .ldRRImm .bc v
  | .ld_mbc_a => .ldIndA .bc
  | .inc_bc => .inc16 .bc
  | .inc_b => .inc8 (.reg .b)
  | .dec_b => .dec8 (.reg .b)
  | .ld_b_d8 n => .ldRImm .b n
  | .rlca => .rlca
  | .ld_ma16_sp a => .ldAbsSP a
  | .add_hl_bc => .addHL .bc
  | .ld_a_mbc => .ldAInd .bc
  | .dec_bc => .dec16 .bc
  | .inc_c => .inc8 (.reg .c)
  | .dec_c => .dec8 (.reg .c)
  | .ld_c_d8 n => .ldRImm .c n
  | .rrca => .rrca
  | .stop n => .stop n
  | .ld_de_d16 v => .ldRRImm .de v
  | .ld_mde_a => .ldIndA .de
  | .inc_de => .inc16 .de
  | .inc_d => .inc8 (.reg .d)
  | .dec_d => .dec8 (.reg .d)
  | .ld_d_d8 n => .ldRImm .d n
  | .rla => .rla
  | .jr_e8 e => .jr e
  | .add_hl_de => .addHL .de
  | .ld_a_mde => .ldAInd .de
  | .dec_de => .dec16 .de
  | .inc_e => .inc8 (.reg .e)
  | .dec_e => .dec8 (.reg .e)
  | .ld_e_d8 n => .ldRImm .e n
  | .rra => .rra
  | .jr_nz_e8 e => .jrcc .nz e
  | .ld_hl_d16 v => .ldRRImm .hl v
  | .ld_mhli_a => .ldIndA .hlInc
  | .inc_hl => .inc16 .hl
  | .inc_h => .inc8 (.reg .h)
  | .dec_h => .dec8 (.reg .h)
  | .ld_h_d8 n => .ldRImm .h n
  | .daa => .daa
  | .jr_z_e8 e => .jrcc .z e
  | .add_hl_hl => .addHL .hl
  | .ld_a_mhli => .ldAInd .hlInc
  | .dec_hl => .dec16 .hl
  | .inc_l => .inc8 (.reg .l)
  | .dec_l => .dec8 (.reg .l)
  | .ld_l_d8 n => .ldRImm .l n
  | .cpl => .cpl
  | .jr_nc_e8 e => .jrcc .nc e
  | .ld_sp_d16 v => .ldRRImm .sp v
  | .ld_mhld_a => .ldIndA .hlDec
  | .inc_sp => .inc16 .sp
  | .inc_mhl => .inc8 .mhl
  | .dec_mhl => .dec8 .mhl
  | .ld_mhl_d8 n => .ldHLImm n
  | .scf => .scf
  | .jr_c_e8 e => .jrcc .c e
  | .add_hl_sp => .addHL .sp
  | .ld_a_mhld => .ldAInd .hlDec
  | .dec_sp => .dec16 .sp
  | .inc_a => .inc8 (.reg .a)
  | .dec_a => .dec8 (.reg .a)
  | .ld_a_d8 n => .ldRImm .a n
  | .ccf => .ccf
  | .ld_b_b => .ldRR .b .b
  | .ld_b_c => .ldRR .b .c
  | .ld_b_d => .ldRR .b .d
  | .ld_b_e => .ldRR .b .e
  | .ld_b_h => .ldRR .b .h
  | .ld_b_l => .ldRR .b .l
  | .ld_b_mhl => .ldRHL .b
  | .ld_b_a => .ldRR .b .a
  | .ld_c_b => .ldRR .c .b
  | .ld_c_c => .ldRR .c .c
  | .ld_c_d => .ldRR .c .d
  | .ld_c_e => .ldRR .c .e
  | .ld_c_h => .ldRR .c .h
  | .ld_c_l => .ldRR .c .l
  | .ld_c_mhl => .ldRHL .c
  | .ld_c_a => .ldRR .c .a
  | .ld_d_b => .ldRR .d .b
  | .ld_d_c => .ldRR .d .c
  | .ld_d_d => .ldRR .d .d
  | .ld_d_e => .ldRR .d .e
  | .ld_d_h => .ldRR .d .h
  | .ld_d_l => .ldRR .d .l
  | .ld_d_mhl => .ldRHL .d
  | .ld_d_a => .ldRR .d .a
  | .ld_e_b => .ldRR .e .b
  | .ld_e_c => .ldRR .e .c
  | .ld_e_d => .ldRR .e .d
  | .ld_e_e => .ldRR .e .e
  | .ld_e_h => .ldRR .e .h
  | .ld_e_l => .ldRR .e .l
  | .ld_e_mhl => .ldRHL .e
  | .ld_e_a => .ldRR .e .a
  | .ld_h_b => .ldRR .h .b
  | .ld_h_c => .ldRR .h .c
  | .ld_h_d => .ldRR .h .d
  | .ld_h_e => .ldRR .h .e
  | .ld_h_h => .ldRR .h .h
  | .ld_h_l => .ldRR .h .l
  | .ld_h_mhl => .ldRHL .h
  | .ld_h_a => .ldRR .h .a
  | .ld_l_b => .ldRR .l .b
  | .ld_l_c => .ldRR .l .c
  | .ld_l_d => .ldRR .l .d
  | .ld_l_e => .ldRR .l .e
  | .ld_l_h => .ldRR .l .h
  | .ld_l_l => .ldRR .l .l
  | .ld_l_mhl => .ldRHL .l
  | .ld_l_a => .ldRR .l .a
  | .ld_mhl_b => .ldHLR .b
  | .ld_mhl_c => .ldHLR .c
  | .ld_mhl_d => .ldHLR .d
  | .ld_mhl_e => .ldHLR .e
  | .ld_mhl_h => .ldHLR .h
  | .ld_mhl_l => .ldHLR .l
  | .halt => .halt
  | .ld_mhl_a => .ldHLR .a
  | .ld_a_b => .ldRR .a .b
  | .ld_a_c => .ldRR .a .c
  | .ld_a_d => .ldRR .a .d
  | .ld_a_e => .ldRR .a .e
  | .ld_a_h => .ldRR .a .h
  | .ld_a_l => .ldRR .a .l
  | .ld_a_mhl => .ldRHL .a
  | .ld_a_a => .ldRR .a .a
  | .add_a_b => .alu .add (.reg .b)
  | .add_a_c => .alu .add (.reg .c)
  | .add_a_d => .alu .add (.reg .d)
  | .add_a_e => .alu .add (.reg .e)
  | .add_a_h => .alu .add (.reg .h)
  | .add_a_l => .alu .add (.reg .l)
  | .add_a_mhl => .alu .add .mhl
  | .add_a_a => .alu .add (.reg .a)
  | .adc_a_b => .alu .adc (.reg .b)
  | .adc_a_c => .alu .adc (.reg .c)
  | .adc_a_d => .alu .adc (.reg .d)
  | .adc_a_e => .alu .adc (.reg .e)
  | .adc_a_h => .alu .adc (.reg .h)
  | .adc_a_l => .alu .adc (.reg .l)
  | .adc_a_mhl => .alu .adc .mhl
  | .adc_a_a => .alu .adc (.reg .a)
  | .sub_b => .alu .sub (.reg .b)
  | .sub_c => .alu .sub (.reg .c)
  | .sub_d => .alu .sub (.reg .d)
  | .sub_e => .alu .sub (.reg .e)
  | .sub_h => .alu .sub (.reg .h)
  | .sub_l => .alu .sub (.reg .l)
  | .sub_mhl => .alu .sub .mhl
  | .sub_a => .alu .sub (.reg .a)
  | .sbc_a_b => .alu .sbc (.reg .b)
  | .sbc_a_c => .alu .sbc (.reg .c)
  | .sbc_a_d => .alu .sbc (.reg .d)
  | .sbc_a_e => .alu .sbc (.reg .e)
  | .sbc_a_h => .alu .sbc (.reg .h)
  | .sbc_a_l => .alu .sbc (.reg .l)
  | .sbc_a_mhl => .alu .sbc .mhl
  | .sbc_a_a => .alu .sbc (.reg .a)
  | .and_b => .alu .and (.reg .b)
  | .and_c => .alu .and (.reg .c)
  | .and_d => .alu .and (.reg .d)
  | .and_e => .alu .and (.reg .e)
  | .and_h => .alu .and (.reg .h)
  | .and_l => .alu .and (.reg .l)
  | .and_mhl => .alu .and .mhl
  | .and_a => .alu .and (.reg .a)
  | .xor_b => .alu .xor (.reg .b)
  | .xor_c => .alu .xor (.reg .c)
  | .xor_d => .alu .xor (.reg .d)
  | .xor_e => .alu .xor (.reg .e)
  | .xor_h => .alu .xor (.reg .h)
  | .xor_l => .alu .xor (.reg .l)
  | .xor_mhl => .alu .xor .mhl
  | .xor_a => .alu .xor (.reg .a)
  | .or_b => .alu .or (.reg .b)
  | .or_c => .alu .or (.reg .c)
  | .or_d => .alu .or (.reg .d)
  | .or_e => .alu .or (.reg .e)
  | .or_h => .alu .or (.reg .h)
  | .or_l => .alu .or (.reg .l)
  | .or_mhl => .alu .or .mhl
  | .or_a => .alu .or (.reg .a)
  | .cp_b => .alu .cp (.reg .b)
  | .cp_c => .alu .cp (.reg .c)
  | .cp_d => .alu .cp (.reg .d)
  | .cp_e => .alu .cp (.reg .e)
  | .cp_h => .alu .cp (.reg .h)
  | .cp_l => .alu .cp (.reg .l)
  | .cp_mhl => .alu .cp .mhl
  | .cp_a => .alu .cp (.reg .a)
  | .ret_nz => .retcc .nz
  | .pop_bc => .pop .bc
  | .jp_nz_a16 a => .jpcc .nz a
  | .jp_a16 a => .jp a
  | .call_nz_a16 a => .callcc .nz a
  | .push_bc => .push .bc
  | .add_a_d8 n => .alu .add (.imm n)
  | .rst_00h => .rst 0
  | .ret_z => .retcc .z
  | .ret => .ret
  | .jp_z_a16 a => .jpcc .z a
  | .prefix_cb op2 => cbForm op2
  | .call_z_a16 a => .callcc .z a
  | .call_a16 a => .call a
  | .adc_a_d8 n => .alu .adc (.imm n)
  | .rst_08h => .rst 1
  | .ret_nc => .retcc .nc
  | .pop_de => .pop .de
  | .jp_nc_a16 a => .jpcc .nc a
  | .call_nc_a16 a => .callcc .nc a
  | .push_de => .push .de
  | .sub_d8 n => .alu .sub (.imm n)
  | .rst_10h => .rst 2
  | .ret_c => .retcc .c
  | .reti => .reti
  | .jp_c_a16 a => .jpcc .c a
  | .call_c_a16 a => .callcc .c a
  | .sbc_a_d8 n => .alu .sbc (.imm n)
  | .rst_18h => .rst 3
  | .ldh_ma8_a n => .ldhA n
  | .pop_hl => .pop .hl
  | .ld_mc_a => .ldCA
  | .push_hl => .push .hl
  | .and_d8 n => .alu .and (.imm n)
  | .rst_20h => .rst 4
  | .add_sp_e8 e => .addSP e
  | .jp_hl => .jphl
  | .ld_ma16_a a => .ldAbsA a
  | .xor_d8 n => .alu .xor (.imm n)
  | .rst_28h => .rst 5
  | .ldh_a_ma8 n => .ldhLoad n
  | .pop_af => .pop .af
  | .ld_a_mc => .ldAC
  | .di => .di
  | .push_af => .push .af
  | .or_d8 n => .alu .or (.imm n)
  | .rst_30h => .rst 6
  | .ld_hl_sp_e8 e => .ldHLSP e
  | .ld_sp_hl => .ldSPHL
  | .ld_a_ma16 a => .ldAAbs a
  | .ei => .ei
  | .cp_d8 n => .alu .cp (.imm n)
  | .rst_38h => .rst 7
  | .rlc_b => .rot .rlc (.reg .b)
  | .rlc_c => .rot .rlc (.reg .c)
  | .rlc_d => .rot .rlc (.reg .d)
  | .rlc_e => .rot .rlc (.reg .e)
  | .rlc_h => .rot .rlc (.reg .h)
  | .rlc_l => .rot .rlc (.reg .l)
  | .rlc_mhl => .rot .rlc .mhl
  | .rlc_a => .rot .rlc (.reg .a)
  | .rrc_b => .rot .rrc (.reg .b)
  | .rrc_c => .rot .rrc (.reg .c)
  | .rrc_d => .rot .rrc (.reg .d)
  | .rrc_e => .rot .rrc (.reg .e)
  | .rrc_h => .rot .rrc (.reg .h)
  | .rrc_l => .rot .rrc (.reg .l)
  | .rrc_mhl => .rot .rrc .mhl
  | .rrc_a => .rot .rrc (.reg .a)
  | .rl_b => .rot .rl (.reg .b)
  | .rl_c => .rot .rl (.reg .c)
  | .rl_d => .rot .rl (.reg .d)
  | .rl_e => .rot .rl (.reg .e)
  | .rl_h => .rot .rl (.reg .h)
  | .rl_l => .rot .rl (.reg .l)
  | .rl_mhl => .rot .rl .mhl
  | .rl_a => .rot .rl (.reg .a)
  | .rr_b => .rot .rr (.reg .b)
  | .rr_c => .rot .rr (.reg .c)
  | .rr_d => .rot .rr (.reg .d)
  | .rr_e => .rot .rr (.reg .e)
  | .rr_h => .rot .rr (.reg .h)
  | .rr_l => .rot .rr (.reg .l)
  | .rr_mhl => .rot .rr .mhl
  | .rr_a => .rot .rr (.reg .a)
  | .sla_b => .rot .sla (.reg .b)
  | .sla_c => .rot .sla (.reg .c)
  | .sla_d => .rot .sla (.reg .d)
  | .sla_e => .rot .sla (.reg .e)
  | .sla_h => .rot .sla (.reg .h)
  | .sla_l => .rot .sla (.reg .l)
  | .sla_mhl => .rot .sla .mhl
  | .sla_a => .rot .sla (.reg .a)
  | .sra_b => .rot .sra (.reg .b)
  | .sra_c => .rot .sra (.reg .c)
  | .sra_d => .rot .sra (.reg .d)
  | .sra_e => .rot .sra (.reg .e)
  | .sra_h => .rot .sra (.reg .h)
  | .sra_l => .rot .sra (.reg .l)
  | .sra_mhl => .rot .sra .mhl
  | .sra_a => .rot .sra (.reg .a)
  | .swap_b => .rot .swap (.reg .b)
  | .swap_c => .rot .swap (.reg .c)
  | .swap_d => .rot .swap (.reg .d)
  | .swap_e => .rot .swap (.reg .e)
  | .swap_h => .rot .swap (.reg .h)
  | .swap_l => .rot .swap (.reg .l)
  | .swap_mhl => .rot .swap .mhl
  | .swap_a => .rot .swap (.reg .a)
  | .srl_b => .rot .srl (.reg .b)
  | .srl_c => .rot .srl (.reg .c)
  | .srl_d => .rot .srl (.reg .d)
  | .srl_e => .rot .srl (.reg .e)
  | .srl_h => .rot .srl (.reg .h)
  | .srl_l => .rot .srl (.reg .l)
  | .srl_mhl => .rot .srl .mhl
  | .srl_a => .rot .srl (.reg .a)
  | .bit_0_b => .bit 0 (.reg .b)
  | .bit_0_c => .bit 0 (.reg .c)
  | .bit_0_d => .bit 0 (.reg .d)
  | .bit_0_e => .bit 0 (.reg .e)
  | .bit_0_h => .bit 0 (.reg .h)
  | .bit_0_l => .bit 0 (.reg .l)
  | .bit_0_mhl => .bit 0 .mhl
  | .bit_0_a => .bit 0 (.reg .a)
  | .bit_1_b => .bit 1 (.reg .b)
  | .bit_1_c => .bit 1 (.reg .c)
  | .bit_1_d => .bit 1 (.reg .d)
  | .bit_1_e => .bit 1 (.reg .e)
  | .bit_1_h => .bit 1 (.reg .h)
  | .bit_1_l => .bit 1 (.reg .l)
  | .bit_1_mhl => .bit 1 .mhl
  | .bit_1_a => .bit 1 (.reg .a)
  | .bit_2_b => .bit 2 (.reg .b)
  | .bit_2_c => .bit 2 (.reg .c)
  | .bit_2_d => .bit 2 (.reg .d)
  | .bit_2_e => .bit 2 (.reg .e)
  | .bit_2_h => .bit 2 (.reg .h)
  | .bit_2_l => .bit 2 (.reg .l)
  | .bit_2_mhl => .bit 2 .mhl
  | .bit_2_a => .bit 2 (.reg .a)
  | .bit_3_b => .bit 3 (.reg .b)
  | .bit_3_c => .bit 3 (.reg .c)
  | .bit_3_d => .bit 3 (.reg .d)
  | .bit_3_e => .bit 3 (.reg .e)
  | .bit_3_h => .bit 3 (.reg .h)
  | .bit_3_l => .bit 3 (.reg .l)
  | .bit_3_mhl => .bit 3 .mhl
  | .bit_3_a => .bit 3 (.reg .a)
  | .bit_4_b => .bit 4 (.reg .b)
  | .bit_4_c => .bit 4 (.reg .c)
  | .bit_4_d => .bit 4 (.reg .d)
  | .bit_4_e => .bit 4 (.reg .e)
  | .bit_4_h => .bit 4 (.reg .h)
  | .bit_4_l => .bit 4 (.reg .l)
  | .bit_4_mhl => .bit 4 .mhl
  | .bit_4_a => .bit 4 (.reg .a)
  | .bit_5_b => .bit 5 (.reg .b)
  | .bit_5_c => .bit 5 (.reg .c)
  | .bit_5_d => .bit 5 (.reg .d)
  | .bit_5_e => .bit 5 (.reg .e)
  | .bit_5_h => .bit 5 (.reg .h)
  | .bit_5_l => .bit 5 (.reg .l)
  | .bit_5_mhl => .bit 5 .mhl
  | .bit_5_a => .bit 5 (.reg .a)
  | .bit_6_b => .bit 6 (.reg .b)
  | .bit_6_c => .bit 6 (.reg .c)
  | .bit_6_d => .bit 6 (.reg .d)
  | .bit_6_e => .bit 6 (.reg .e)
  | .bit_6_h => .bit 6 (.reg .h)
  | .bit_6_l => .bit 6 (.reg .l)
  | .bit_6_mhl => .bit 6 .mhl
  | .bit_6_a => .bit 6 (.reg .a)
  | .bit_7_b => .bit 7 (.reg .b)
  | .bit_7_c => .bit 7 (.reg .c)
  | .bit_7_d => .bit 7 (.reg .d)
  | .bit_7_e => .bit 7 (.reg .e)
  | .bit_7_h => .bit 7 (.reg .h)
  | .bit_7_l => .bit 7 (.reg .l)
  | .bit_7_mhl => .bit 7 .mhl
  | .bit_7_a => .bit 7 (.reg .a)
  | .res_0_b => .res 0 (.reg .b)
  | .res_0_c => .res 0 (.reg .c)
  | .res_0_d => .res 0 (.reg .d)
  | .res_0_e => .res 0 (.reg .e)
  | .res_0_h => .res 0 (.reg .h)
  | .res_0_l => .res 0 (.reg .l)
  | .res_0_mhl => .res 0 .mhl
  | .res_0_a => .res 0 (.reg .a)
  | .res_1_b => .res 1 (.reg .b)
  | .res_1_c => .res 1 (.reg .c)
  | .res_1_d => .res 1 (.reg .d)
  | .res_1_e => .res 1 (.reg .e)
  | .res_1_h => .res 1 (.reg .h)
  | .res_1_l => .res 1 (.reg .l)
  | .res_1_mhl => .res 1 .mhl
  | .res_1_a => .res 1 (.reg .a)
  | .res_2_b => .res 2 (.reg .b)
  | .res_2_c => .res 2 (.reg .c)
  | .res_2_d => .res 2 (.reg .d)
  | .res_2_e => .res 2 (.reg .e)
  | .res_2_h => .res 2 (.reg .h)
  | .res_2_l => .res 2 (.reg .l)
  | .res_2_mhl => .res 2 .mhl
  | .res_2_a => .res 2 (.reg .a)
  | .res_3_b => .res 3 (.reg .b)
  | .res_3_c => .res 3 (.reg .c)
  | .res_3_d => .res 3 (.reg .d)
  | .res_3_e => .res 3 (.reg .e)
  | .res_3_h => .res 3 (.reg .h)
  | .res_3_l => .res 3 (.reg .l)
  | .res_3_mhl => .res 3 .mhl
  | .res_3_a => .res 3 (.reg .a)
  | .res_4_b => .res 4 (.reg .b)
  | .res_4_c => .res 4 (.reg .c)
  | .res_4_d => .res 4 (.reg .d)
  | .res_4_e => .res 4 (.reg .e)
  | .res_4_h => .res 4 (.reg .h)
  | .res_4_l => .res 4 (.reg .l)
  | .res_4_mhl => .res 4 .mhl
  | .res_4_a => .res 4 (.reg .a)
  | .res_5_b => .res 5 (.reg .b)
  | .res_5_c => .res 5 (.reg .c)
  | .res_5_d => .res 5 (.reg .d)
  | .res_5_e => .res 5 (.reg .e)
  | .res_5_h => .res 5 (.reg .h)
  | .res_5_l => .res 5 (.reg .l)
  | .res_5_mhl => .res 5 .mhl
  | .res_5_a => .res 5 (.reg .a)
  | .res_6_b => .res 6 (.reg .b)
  | .res_6_c => .res 6 (.reg .c)
  | .res_6_d => .res 6 (.reg .d)
  | .res_6_e => .res 6 (.reg .e)
  | .res_6_h => .res 6 (.reg .h)
  | .res_6_l => .res 6 (.reg .l)
  | .res_6_mhl => .res 6 .mhl
  | .res_6_a => .res 6 (.reg .a)
  | .res_7_b => .res 7 (.reg .b)
  | .res_7_c => .res 7 (.reg .c)
  | .res_7_d => .res 7 (.reg .d)
  | .res_7_e => .res 7 (.reg .e)
  | .res_7_h => .res 7 (.reg .h)
  | .res_7_l => .res 7 (.reg .l)
  | .res_7_mhl => .res 7 .mhl
  | .res_7_a => .res 7 (.reg .a)
  | .set_0_b => .set 0 (.reg .b)
  | .set_0_c => .set 0 (.reg .c)
  | .set_0_d => .set 0 (.reg .d)
  | .set_0_e => .set 0 (.reg .e)
  | .set_0_h => .set 0 (.reg .h)
  | .set_0_l => .set 0 (.reg .l)
  | .set_0_mhl => .set 0 .mhl
  | .set_0_a => .set 0 (.reg .a)
  | .set_1_b => .set 1 (.reg .b)
  | .set_1_c => .set 1 (.reg .c)
  | .set_1_d => .set 1 (.reg .d)
  | .set_1_e => .set 1 (.reg .e)
  | .set_1_h => .set 1 (.reg .h)
  | .set_1_l => .set 1 (.reg .l)
  | .set_1_mhl => .set 1 .mhl
  | .set_1_a => .set 1 (.reg .a)
  | .set_2_b => .set 2 (.reg .b)
  | .set_2_c => .set 2 (.reg .c)
  | .set_2_d => .set 2 (.reg .d)
  | .set_2_e => .set 2 (.reg .e)
  | .set_2_h => .set 2 (.reg .h)
  | .set_2_l => .set 2 (.reg .l)
  | .set_2_mhl => .set 2 .mhl
  | .set_2_a => .set 2 (.reg .a)
  | .set_3_b => .set 3 (.reg .b)
  | .set_3_c => .set 3 (.reg .c)
  | .set_3_d => .set 3 (.reg .d)
  | .set_3_e => .set 3 (.reg .e)
  | .set_3_h => .set 3 (.reg .h)
  | .set_3_l => .set 3 (.reg .l)
  | .set_3_mhl => .set 3 .mhl
  | .set_3_a => .set 3 (.reg .a)
  | .set_4_b => .set 4 (.reg .b)
  | .set_4_c => .set 4 (.reg .c)
  | .set_4_d => .set 4 (.reg .d)
  | .set_4_e => .set 4 (.reg .e)
  | .set_4_h => .set 4 (.reg .h)
  | .set_4_l => .set 4 (.reg .l)
  | .set_4_mhl => .set 4 .mhl
  | .set_4_a => .set 4 (.reg .a)
  | .set_5_b => .set 5 (.reg .b)
  | .set_5_c => .set 5 (.reg .c)
  | .set_5_d => .set 5 (.reg .d)
  | .set_5_e => .set 5 (.reg .e)
  | .set_5_h => .set 5 (.reg .h)
  | .set_5_l => .set 5 (.reg .l)
  | .set_5_mhl => .set 5 .mhl
  | .set_5_a => .set 5 (.reg .a)
  | .set_6_b => .set 6 (.reg .b)
  | .set_6_c => .set 6 (.reg .c)
  | .set_6_d => .set 6 (.reg .d)
  | .set_6_e => .set 6 (.reg .e)
  | .set_6_h => .set 6 (.reg .h)
  | .set_6_l => .set 6 (.reg .l)
  | .set_6_mhl => .set 6 .mhl
  | .set_6_a => .set 6 (.reg .a)
  | .set_7_b => .set 7 (.reg .b)
  | .set_7_c => .set 7 (.reg .c)
  | .set_7_d => .set 7 (.reg .d)
  | .set_7_e => .set 7 (.reg .e)
  | .set_7_h => .set 7 (.reg .h)
  | .set_7_l => .set 7 (.reg .l)
  | .set_7_mhl => .set 7 .mhl
  | .set_7_a => .set 7 (.reg .a)
  | .illegal op => .illegal op

/-! ### The encoder -/

/-- The bytes of a form, in fetch order, from the "Encoding" line of its rule. -/
def Form.encode : Form → List Byte
  | .ldRR d r => [opXYZ 1 d.code r.code]
  | .ldRImm d n => [opXYZ 0 d.code 6, n]
  | .ldRHL d => [opXYZ 1 d.code 6]
  | .ldHLR r => [opXYZ 1 6 r.code]
  | .ldHLImm n => [0x36#8, n]
  | .ldAInd m => [opXPQZ 0 m.code 1 2]
  | .ldIndA m => [opXPQZ 0 m.code 0 2]
  | .ldAbsA a => 0xEA#8 :: wordBytes a
  | .ldAAbs a => 0xFA#8 :: wordBytes a
  | .ldhA n => [0xE0#8, n]
  | .ldhLoad n => [0xF0#8, n]
  | .ldCA => [0xE2#8]
  | .ldAC => [0xF2#8]
  | .ldRRImm p v => opXPQZ 0 p.code 0 1 :: wordBytes v
  | .ldAbsSP a => 0x08#8 :: wordBytes a
  | .ldSPHL => [0xF9#8]
  | .ldHLSP n => [0xF8#8, n]
  | .push p => [opXPQZ 3 p.code 0 5]
  | .pop p => [opXPQZ 3 p.code 0 1]
  | .alu op (.reg r) => [opXYZ 2 op.code r.code]
  | .alu op .mhl => [opXYZ 2 op.code 6]
  | .alu op (.imm n) => [opXYZ 3 op.code 6, n]
  | .inc8 o => [opXYZ 0 o.code 4]
  | .dec8 o => [opXYZ 0 o.code 5]
  | .addHL p => [opXPQZ 0 p.code 1 1]
  | .inc16 p => [opXPQZ 0 p.code 0 3]
  | .dec16 p => [opXPQZ 0 p.code 1 3]
  | .addSP n => [0xE8#8, n]
  | .rlca => [0x07#8]
  | .rrca => [0x0F#8]
  | .rla => [0x17#8]
  | .rra => [0x1F#8]
  | .daa => [0x27#8]
  | .cpl => [0x2F#8]
  | .scf => [0x37#8]
  | .ccf => [0x3F#8]
  | .rot op o => [0xCB#8, opXYZ 0 op.code o.code]
  | .bit b o => [0xCB#8, opXYZ 1 b.val o.code]
  | .res b o => [0xCB#8, opXYZ 2 b.val o.code]
  | .set b o => [0xCB#8, opXYZ 3 b.val o.code]
  | .nop => [0x00#8]
  | .halt => [0x76#8]
  | .stop n => [0x10#8, n]
  | .di => [0xF3#8]
  | .ei => [0xFB#8]
  | .jr e => [0x18#8, e]
  | .jrcc cc e => [opXYZ 0 (4 + cc.code) 0, e]
  | .jp a => 0xC3#8 :: wordBytes a
  | .jpcc cc a => opXYZ 3 cc.code 2 :: wordBytes a
  | .jphl => [0xE9#8]
  | .call a => 0xCD#8 :: wordBytes a
  | .callcc cc a => opXYZ 3 cc.code 4 :: wordBytes a
  | .ret => [0xC9#8]
  | .retcc cc => [opXYZ 3 cc.code 0]
  | .reti => [0xD9#8]
  | .rst t => [opXYZ 3 t.val 7]
  | .illegal op => [op]

/-- The bytes of an instruction, in fetch order. -/
def encode (i : Instr) : List Byte := i.form.encode

/-- The opcode bytes that start a three-byte instruction (R77). -/
def threeByteOpcodes : List Byte :=
  [0x01#8, 0x11#8, 0x21#8, 0x31#8, 0x08#8, 0xC2#8, 0xC3#8, 0xC4#8, 0xCA#8, 0xCC#8, 0xCD#8, 0xD2#8,
    0xD4#8, 0xDA#8, 0xDC#8, 0xEA#8, 0xFA#8]

/-- The opcode bytes that start a two-byte instruction (R77). -/
def twoByteOpcodes : List Byte :=
  [0x06#8, 0x0E#8, 0x16#8, 0x1E#8, 0x26#8, 0x2E#8, 0x36#8, 0x3E#8, 0x10#8, 0x18#8, 0x20#8, 0x28#8,
    0x30#8, 0x38#8, 0xC6#8, 0xCE#8, 0xD6#8, 0xDE#8, 0xE6#8, 0xEE#8, 0xF6#8, 0xFE#8, 0xE0#8, 0xF0#8,
    0xE8#8, 0xF8#8, 0xCB#8]

/-- The length of an instruction, from its first byte alone (R77). An illegal byte has no length: what
is fetched of it is the one byte (R78). -/
def lengthOf (op : Byte) : Nat :=
  if threeByteOpcodes.contains op then 3 else if twoByteOpcodes.contains op then 2 else 1

end Sys2Proof
end

