-- ==== Sys2Proof/Machine/CbRotate.lean ====
section
/-! DEFINITION. CB-prefixed rotates and shifts (47_cb_prefixed.md R240-R256), the shared operations of all prefixed
rows, and the prefix itself (40_engine.md R93).
One definition per row of the opcode table, over the shared operations above them. -/

namespace Sys2Proof.Machine

/-- The rotates and shifts on `r8[z]` (R240-R256). -/
def rotOpnd (op : RotOp) (o : Opnd) (s : State) : Out := finish (modifyOpnd s o (rotate op))

/-- BIT b on `r8[z]` (R257, R258): nothing is written back. -/
def bitOpnd (b : Fin 8) (o : Opnd) (s : State) : Out :=
  finish (do
    let v ← readOpnd s o
    return { s with f := bitTest s.f b v })

/-- RES b on `r8[z]` (R259, R260): no flag is written. -/
def resOpnd (b : Fin 8) (o : Opnd) (s : State) : Out :=
  finish (modifyOpnd s o (fun f v => (resetBit b v, f)))

/-- SET b on `r8[z]` (R261, R262): no flag is written. -/
def setOpnd (b : Fin 8) (o : Opnd) (s : State) : Out :=
  finish (modifyOpnd s o (fun f v => (setBit b v, f)))

/-- `RLC B` (R241). -/
def execRlcB (s : State) : Out := rotOpnd .rlc (.reg .b) s

/-- `RLC C` (R241). -/
def execRlcC (s : State) : Out := rotOpnd .rlc (.reg .c) s

/-- `RLC D` (R241). -/
def execRlcD (s : State) : Out := rotOpnd .rlc (.reg .d) s

/-- `RLC E` (R241). -/
def execRlcE (s : State) : Out := rotOpnd .rlc (.reg .e) s

/-- `RLC H` (R241). -/
def execRlcH (s : State) : Out := rotOpnd .rlc (.reg .h) s

/-- `RLC L` (R241). -/
def execRlcL (s : State) : Out := rotOpnd .rlc (.reg .l) s

/-- `RLC (HL)` (R242). -/
def execRlcMhl (s : State) : Out := rotOpnd .rlc .mhl s

/-- `RLC A` (R241). -/
def execRlcA (s : State) : Out := rotOpnd .rlc (.reg .a) s

/-- `RRC B` (R243). -/
def execRrcB (s : State) : Out := rotOpnd .rrc (.reg .b) s

/-- `RRC C` (R243). -/
def execRrcC (s : State) : Out := rotOpnd .rrc (.reg .c) s

/-- `RRC D` (R243). -/
def execRrcD (s : State) : Out := rotOpnd .rrc (.reg .d) s

/-- `RRC E` (R243). -/
def execRrcE (s : State) : Out := rotOpnd .rrc (.reg .e) s

/-- `RRC H` (R243). -/
def execRrcH (s : State) : Out := rotOpnd .rrc (.reg .h) s

/-- `RRC L` (R243). -/
def execRrcL (s : State) : Out := rotOpnd .rrc (.reg .l) s

/-- `RRC (HL)` (R244). -/
def execRrcMhl (s : State) : Out := rotOpnd .rrc .mhl s

/-- `RRC A` (R243). -/
def execRrcA (s : State) : Out := rotOpnd .rrc (.reg .a) s

/-- `RL B` (R245). -/
def execRlB (s : State) : Out := rotOpnd .rl (.reg .b) s

/-- `RL C` (R245). -/
def execRlC (s : State) : Out := rotOpnd .rl (.reg .c) s

/-- `RL D` (R245). -/
def execRlD (s : State) : Out := rotOpnd .rl (.reg .d) s

/-- `RL E` (R245). -/
def execRlE (s : State) : Out := rotOpnd .rl (.reg .e) s

/-- `RL H` (R245). -/
def execRlH (s : State) : Out := rotOpnd .rl (.reg .h) s

/-- `RL L` (R245). -/
def execRlL (s : State) : Out := rotOpnd .rl (.reg .l) s

/-- `RL (HL)` (R246). -/
def execRlMhl (s : State) : Out := rotOpnd .rl .mhl s

/-- `RL A` (R245). -/
def execRlA (s : State) : Out := rotOpnd .rl (.reg .a) s

/-- `RR B` (R247). -/
def execRrB (s : State) : Out := rotOpnd .rr (.reg .b) s

/-- `RR C` (R247). -/
def execRrC (s : State) : Out := rotOpnd .rr (.reg .c) s

/-- `RR D` (R247). -/
def execRrD (s : State) : Out := rotOpnd .rr (.reg .d) s

/-- `RR E` (R247). -/
def execRrE (s : State) : Out := rotOpnd .rr (.reg .e) s

/-- `RR H` (R247). -/
def execRrH (s : State) : Out := rotOpnd .rr (.reg .h) s

/-- `RR L` (R247). -/
def execRrL (s : State) : Out := rotOpnd .rr (.reg .l) s

/-- `RR (HL)` (R248). -/
def execRrMhl (s : State) : Out := rotOpnd .rr .mhl s

/-- `RR A` (R247). -/
def execRrA (s : State) : Out := rotOpnd .rr (.reg .a) s

/-- `SLA B` (R249). -/
def execSlaB (s : State) : Out := rotOpnd .sla (.reg .b) s

/-- `SLA C` (R249). -/
def execSlaC (s : State) : Out := rotOpnd .sla (.reg .c) s

/-- `SLA D` (R249). -/
def execSlaD (s : State) : Out := rotOpnd .sla (.reg .d) s

/-- `SLA E` (R249). -/
def execSlaE (s : State) : Out := rotOpnd .sla (.reg .e) s

/-- `SLA H` (R249). -/
def execSlaH (s : State) : Out := rotOpnd .sla (.reg .h) s

/-- `SLA L` (R249). -/
def execSlaL (s : State) : Out := rotOpnd .sla (.reg .l) s

/-- `SLA (HL)` (R250). -/
def execSlaMhl (s : State) : Out := rotOpnd .sla .mhl s

/-- `SLA A` (R249). -/
def execSlaA (s : State) : Out := rotOpnd .sla (.reg .a) s

/-- `SRA B` (R251). -/
def execSraB (s : State) : Out := rotOpnd .sra (.reg .b) s

/-- `SRA C` (R251). -/
def execSraC (s : State) : Out := rotOpnd .sra (.reg .c) s

/-- `SRA D` (R251). -/
def execSraD (s : State) : Out := rotOpnd .sra (.reg .d) s

/-- `SRA E` (R251). -/
def execSraE (s : State) : Out := rotOpnd .sra (.reg .e) s

/-- `SRA H` (R251). -/
def execSraH (s : State) : Out := rotOpnd .sra (.reg .h) s

/-- `SRA L` (R251). -/
def execSraL (s : State) : Out := rotOpnd .sra (.reg .l) s

/-- `SRA (HL)` (R252). -/
def execSraMhl (s : State) : Out := rotOpnd .sra .mhl s

/-- `SRA A` (R251). -/
def execSraA (s : State) : Out := rotOpnd .sra (.reg .a) s

/-- `SWAP B` (R253). -/
def execSwapB (s : State) : Out := rotOpnd .swap (.reg .b) s

/-- `SWAP C` (R253). -/
def execSwapC (s : State) : Out := rotOpnd .swap (.reg .c) s

/-- `SWAP D` (R253). -/
def execSwapD (s : State) : Out := rotOpnd .swap (.reg .d) s

/-- `SWAP E` (R253). -/
def execSwapE (s : State) : Out := rotOpnd .swap (.reg .e) s

/-- `SWAP H` (R253). -/
def execSwapH (s : State) : Out := rotOpnd .swap (.reg .h) s

/-- `SWAP L` (R253). -/
def execSwapL (s : State) : Out := rotOpnd .swap (.reg .l) s

/-- `SWAP (HL)` (R254). -/
def execSwapMhl (s : State) : Out := rotOpnd .swap .mhl s

/-- `SWAP A` (R253). -/
def execSwapA (s : State) : Out := rotOpnd .swap (.reg .a) s

/-- `SRL B` (R255). -/
def execSrlB (s : State) : Out := rotOpnd .srl (.reg .b) s

/-- `SRL C` (R255). -/
def execSrlC (s : State) : Out := rotOpnd .srl (.reg .c) s

/-- `SRL D` (R255). -/
def execSrlD (s : State) : Out := rotOpnd .srl (.reg .d) s

/-- `SRL E` (R255). -/
def execSrlE (s : State) : Out := rotOpnd .srl (.reg .e) s

/-- `SRL H` (R255). -/
def execSrlH (s : State) : Out := rotOpnd .srl (.reg .h) s

/-- `SRL L` (R255). -/
def execSrlL (s : State) : Out := rotOpnd .srl (.reg .l) s

/-- `SRL (HL)` (R256). -/
def execSrlMhl (s : State) : Out := rotOpnd .srl .mhl s

/-- `SRL A` (R255). -/
def execSrlA (s : State) : Out := rotOpnd .srl (.reg .a) s

/-- The shared CB rule (R240) on the form that the fields of `op2` name. -/
def cbShared (op2 : Byte) (s : State) : Out :=
  let o := opndOfCode (zField op2)
  match xField op2 with
  | 0 => rotOpnd (rotOfCode (yField op2)) o s
  | 1 => bitOpnd (yField op2) o s
  | 2 => resOpnd (yField op2) o s
  | _ => setOpnd (yField op2) o s

/-- `PREFIX CB` (R93): dispatch continues in the prefixed table with `op2`. -/
def execPrefixCb (op2 : Byte) (s : State) : Out := cbShared op2 s

end Sys2Proof.Machine
end

