-- ==== Sys2Proof/Machine/CbBit.lean ====
section
/-! DEFINITION. CB-prefixed bit tests (47_cb_prefixed.md R257, R258).
One definition per row of the opcode table, over the shared operations of Machine/CbRotate.lean. -/

namespace Sys2Proof.Machine

/-- `BIT 0,B` (R257). -/
def execBit0B (s : State) : Out := bitOpnd 0 (.reg .b) s

/-- `BIT 0,C` (R257). -/
def execBit0C (s : State) : Out := bitOpnd 0 (.reg .c) s

/-- `BIT 0,D` (R257). -/
def execBit0D (s : State) : Out := bitOpnd 0 (.reg .d) s

/-- `BIT 0,E` (R257). -/
def execBit0E (s : State) : Out := bitOpnd 0 (.reg .e) s

/-- `BIT 0,H` (R257). -/
def execBit0H (s : State) : Out := bitOpnd 0 (.reg .h) s

/-- `BIT 0,L` (R257). -/
def execBit0L (s : State) : Out := bitOpnd 0 (.reg .l) s

/-- `BIT 0,(HL)` (R258). -/
def execBit0Mhl (s : State) : Out := bitOpnd 0 .mhl s

/-- `BIT 0,A` (R257). -/
def execBit0A (s : State) : Out := bitOpnd 0 (.reg .a) s

/-- `BIT 1,B` (R257). -/
def execBit1B (s : State) : Out := bitOpnd 1 (.reg .b) s

/-- `BIT 1,C` (R257). -/
def execBit1C (s : State) : Out := bitOpnd 1 (.reg .c) s

/-- `BIT 1,D` (R257). -/
def execBit1D (s : State) : Out := bitOpnd 1 (.reg .d) s

/-- `BIT 1,E` (R257). -/
def execBit1E (s : State) : Out := bitOpnd 1 (.reg .e) s

/-- `BIT 1,H` (R257). -/
def execBit1H (s : State) : Out := bitOpnd 1 (.reg .h) s

/-- `BIT 1,L` (R257). -/
def execBit1L (s : State) : Out := bitOpnd 1 (.reg .l) s

/-- `BIT 1,(HL)` (R258). -/
def execBit1Mhl (s : State) : Out := bitOpnd 1 .mhl s

/-- `BIT 1,A` (R257). -/
def execBit1A (s : State) : Out := bitOpnd 1 (.reg .a) s

/-- `BIT 2,B` (R257). -/
def execBit2B (s : State) : Out := bitOpnd 2 (.reg .b) s

/-- `BIT 2,C` (R257). -/
def execBit2C (s : State) : Out := bitOpnd 2 (.reg .c) s

/-- `BIT 2,D` (R257). -/
def execBit2D (s : State) : Out := bitOpnd 2 (.reg .d) s

/-- `BIT 2,E` (R257). -/
def execBit2E (s : State) : Out := bitOpnd 2 (.reg .e) s

/-- `BIT 2,H` (R257). -/
def execBit2H (s : State) : Out := bitOpnd 2 (.reg .h) s

/-- `BIT 2,L` (R257). -/
def execBit2L (s : State) : Out := bitOpnd 2 (.reg .l) s

/-- `BIT 2,(HL)` (R258). -/
def execBit2Mhl (s : State) : Out := bitOpnd 2 .mhl s

/-- `BIT 2,A` (R257). -/
def execBit2A (s : State) : Out := bitOpnd 2 (.reg .a) s

/-- `BIT 3,B` (R257). -/
def execBit3B (s : State) : Out := bitOpnd 3 (.reg .b) s

/-- `BIT 3,C` (R257). -/
def execBit3C (s : State) : Out := bitOpnd 3 (.reg .c) s

/-- `BIT 3,D` (R257). -/
def execBit3D (s : State) : Out := bitOpnd 3 (.reg .d) s

/-- `BIT 3,E` (R257). -/
def execBit3E (s : State) : Out := bitOpnd 3 (.reg .e) s

/-- `BIT 3,H` (R257). -/
def execBit3H (s : State) : Out := bitOpnd 3 (.reg .h) s

/-- `BIT 3,L` (R257). -/
def execBit3L (s : State) : Out := bitOpnd 3 (.reg .l) s

/-- `BIT 3,(HL)` (R258). -/
def execBit3Mhl (s : State) : Out := bitOpnd 3 .mhl s

/-- `BIT 3,A` (R257). -/
def execBit3A (s : State) : Out := bitOpnd 3 (.reg .a) s

/-- `BIT 4,B` (R257). -/
def execBit4B (s : State) : Out := bitOpnd 4 (.reg .b) s

/-- `BIT 4,C` (R257). -/
def execBit4C (s : State) : Out := bitOpnd 4 (.reg .c) s

/-- `BIT 4,D` (R257). -/
def execBit4D (s : State) : Out := bitOpnd 4 (.reg .d) s

/-- `BIT 4,E` (R257). -/
def execBit4E (s : State) : Out := bitOpnd 4 (.reg .e) s

/-- `BIT 4,H` (R257). -/
def execBit4H (s : State) : Out := bitOpnd 4 (.reg .h) s

/-- `BIT 4,L` (R257). -/
def execBit4L (s : State) : Out := bitOpnd 4 (.reg .l) s

/-- `BIT 4,(HL)` (R258). -/
def execBit4Mhl (s : State) : Out := bitOpnd 4 .mhl s

/-- `BIT 4,A` (R257). -/
def execBit4A (s : State) : Out := bitOpnd 4 (.reg .a) s

/-- `BIT 5,B` (R257). -/
def execBit5B (s : State) : Out := bitOpnd 5 (.reg .b) s

/-- `BIT 5,C` (R257). -/
def execBit5C (s : State) : Out := bitOpnd 5 (.reg .c) s

/-- `BIT 5,D` (R257). -/
def execBit5D (s : State) : Out := bitOpnd 5 (.reg .d) s

/-- `BIT 5,E` (R257). -/
def execBit5E (s : State) : Out := bitOpnd 5 (.reg .e) s

/-- `BIT 5,H` (R257). -/
def execBit5H (s : State) : Out := bitOpnd 5 (.reg .h) s

/-- `BIT 5,L` (R257). -/
def execBit5L (s : State) : Out := bitOpnd 5 (.reg .l) s

/-- `BIT 5,(HL)` (R258). -/
def execBit5Mhl (s : State) : Out := bitOpnd 5 .mhl s

/-- `BIT 5,A` (R257). -/
def execBit5A (s : State) : Out := bitOpnd 5 (.reg .a) s

/-- `BIT 6,B` (R257). -/
def execBit6B (s : State) : Out := bitOpnd 6 (.reg .b) s

/-- `BIT 6,C` (R257). -/
def execBit6C (s : State) : Out := bitOpnd 6 (.reg .c) s

/-- `BIT 6,D` (R257). -/
def execBit6D (s : State) : Out := bitOpnd 6 (.reg .d) s

/-- `BIT 6,E` (R257). -/
def execBit6E (s : State) : Out := bitOpnd 6 (.reg .e) s

/-- `BIT 6,H` (R257). -/
def execBit6H (s : State) : Out := bitOpnd 6 (.reg .h) s

/-- `BIT 6,L` (R257). -/
def execBit6L (s : State) : Out := bitOpnd 6 (.reg .l) s

/-- `BIT 6,(HL)` (R258). -/
def execBit6Mhl (s : State) : Out := bitOpnd 6 .mhl s

/-- `BIT 6,A` (R257). -/
def execBit6A (s : State) : Out := bitOpnd 6 (.reg .a) s

/-- `BIT 7,B` (R257). -/
def execBit7B (s : State) : Out := bitOpnd 7 (.reg .b) s

/-- `BIT 7,C` (R257). -/
def execBit7C (s : State) : Out := bitOpnd 7 (.reg .c) s

/-- `BIT 7,D` (R257). -/
def execBit7D (s : State) : Out := bitOpnd 7 (.reg .d) s

/-- `BIT 7,E` (R257). -/
def execBit7E (s : State) : Out := bitOpnd 7 (.reg .e) s

/-- `BIT 7,H` (R257). -/
def execBit7H (s : State) : Out := bitOpnd 7 (.reg .h) s

/-- `BIT 7,L` (R257). -/
def execBit7L (s : State) : Out := bitOpnd 7 (.reg .l) s

/-- `BIT 7,(HL)` (R258). -/
def execBit7Mhl (s : State) : Out := bitOpnd 7 .mhl s

/-- `BIT 7,A` (R257). -/
def execBit7A (s : State) : Out := bitOpnd 7 (.reg .a) s

end Sys2Proof.Machine
end

