-- ==== Sys2Proof/Machine/CbRes.lean ====
section
/-! DEFINITION. CB-prefixed bit resets (47_cb_prefixed.md R259, R260).
One definition per row of the opcode table, over the shared operations of Machine/CbRotate.lean. -/

namespace Sys2Proof.Machine

/-- `RES 0,B` (R259). -/
def execRes0B (s : State) : Out := resOpnd 0 (.reg .b) s

/-- `RES 0,C` (R259). -/
def execRes0C (s : State) : Out := resOpnd 0 (.reg .c) s

/-- `RES 0,D` (R259). -/
def execRes0D (s : State) : Out := resOpnd 0 (.reg .d) s

/-- `RES 0,E` (R259). -/
def execRes0E (s : State) : Out := resOpnd 0 (.reg .e) s

/-- `RES 0,H` (R259). -/
def execRes0H (s : State) : Out := resOpnd 0 (.reg .h) s

/-- `RES 0,L` (R259). -/
def execRes0L (s : State) : Out := resOpnd 0 (.reg .l) s

/-- `RES 0,(HL)` (R260). -/
def execRes0Mhl (s : State) : Out := resOpnd 0 .mhl s

/-- `RES 0,A` (R259). -/
def execRes0A (s : State) : Out := resOpnd 0 (.reg .a) s

/-- `RES 1,B` (R259). -/
def execRes1B (s : State) : Out := resOpnd 1 (.reg .b) s

/-- `RES 1,C` (R259). -/
def execRes1C (s : State) : Out := resOpnd 1 (.reg .c) s

/-- `RES 1,D` (R259). -/
def execRes1D (s : State) : Out := resOpnd 1 (.reg .d) s

/-- `RES 1,E` (R259). -/
def execRes1E (s : State) : Out := resOpnd 1 (.reg .e) s

/-- `RES 1,H` (R259). -/
def execRes1H (s : State) : Out := resOpnd 1 (.reg .h) s

/-- `RES 1,L` (R259). -/
def execRes1L (s : State) : Out := resOpnd 1 (.reg .l) s

/-- `RES 1,(HL)` (R260). -/
def execRes1Mhl (s : State) : Out := resOpnd 1 .mhl s

/-- `RES 1,A` (R259). -/
def execRes1A (s : State) : Out := resOpnd 1 (.reg .a) s

/-- `RES 2,B` (R259). -/
def execRes2B (s : State) : Out := resOpnd 2 (.reg .b) s

/-- `RES 2,C` (R259). -/
def execRes2C (s : State) : Out := resOpnd 2 (.reg .c) s

/-- `RES 2,D` (R259). -/
def execRes2D (s : State) : Out := resOpnd 2 (.reg .d) s

/-- `RES 2,E` (R259). -/
def execRes2E (s : State) : Out := resOpnd 2 (.reg .e) s

/-- `RES 2,H` (R259). -/
def execRes2H (s : State) : Out := resOpnd 2 (.reg .h) s

/-- `RES 2,L` (R259). -/
def execRes2L (s : State) : Out := resOpnd 2 (.reg .l) s

/-- `RES 2,(HL)` (R260). -/
def execRes2Mhl (s : State) : Out := resOpnd 2 .mhl s

/-- `RES 2,A` (R259). -/
def execRes2A (s : State) : Out := resOpnd 2 (.reg .a) s

/-- `RES 3,B` (R259). -/
def execRes3B (s : State) : Out := resOpnd 3 (.reg .b) s

/-- `RES 3,C` (R259). -/
def execRes3C (s : State) : Out := resOpnd 3 (.reg .c) s

/-- `RES 3,D` (R259). -/
def execRes3D (s : State) : Out := resOpnd 3 (.reg .d) s

/-- `RES 3,E` (R259). -/
def execRes3E (s : State) : Out := resOpnd 3 (.reg .e) s

/-- `RES 3,H` (R259). -/
def execRes3H (s : State) : Out := resOpnd 3 (.reg .h) s

/-- `RES 3,L` (R259). -/
def execRes3L (s : State) : Out := resOpnd 3 (.reg .l) s

/-- `RES 3,(HL)` (R260). -/
def execRes3Mhl (s : State) : Out := resOpnd 3 .mhl s

/-- `RES 3,A` (R259). -/
def execRes3A (s : State) : Out := resOpnd 3 (.reg .a) s

/-- `RES 4,B` (R259). -/
def execRes4B (s : State) : Out := resOpnd 4 (.reg .b) s

/-- `RES 4,C` (R259). -/
def execRes4C (s : State) : Out := resOpnd 4 (.reg .c) s

/-- `RES 4,D` (R259). -/
def execRes4D (s : State) : Out := resOpnd 4 (.reg .d) s

/-- `RES 4,E` (R259). -/
def execRes4E (s : State) : Out := resOpnd 4 (.reg .e) s

/-- `RES 4,H` (R259). -/
def execRes4H (s : State) : Out := resOpnd 4 (.reg .h) s

/-- `RES 4,L` (R259). -/
def execRes4L (s : State) : Out := resOpnd 4 (.reg .l) s

/-- `RES 4,(HL)` (R260). -/
def execRes4Mhl (s : State) : Out := resOpnd 4 .mhl s

/-- `RES 4,A` (R259). -/
def execRes4A (s : State) : Out := resOpnd 4 (.reg .a) s

/-- `RES 5,B` (R259). -/
def execRes5B (s : State) : Out := resOpnd 5 (.reg .b) s

/-- `RES 5,C` (R259). -/
def execRes5C (s : State) : Out := resOpnd 5 (.reg .c) s

/-- `RES 5,D` (R259). -/
def execRes5D (s : State) : Out := resOpnd 5 (.reg .d) s

/-- `RES 5,E` (R259). -/
def execRes5E (s : State) : Out := resOpnd 5 (.reg .e) s

/-- `RES 5,H` (R259). -/
def execRes5H (s : State) : Out := resOpnd 5 (.reg .h) s

/-- `RES 5,L` (R259). -/
def execRes5L (s : State) : Out := resOpnd 5 (.reg .l) s

/-- `RES 5,(HL)` (R260). -/
def execRes5Mhl (s : State) : Out := resOpnd 5 .mhl s

/-- `RES 5,A` (R259). -/
def execRes5A (s : State) : Out := resOpnd 5 (.reg .a) s

/-- `RES 6,B` (R259). -/
def execRes6B (s : State) : Out := resOpnd 6 (.reg .b) s

/-- `RES 6,C` (R259). -/
def execRes6C (s : State) : Out := resOpnd 6 (.reg .c) s

/-- `RES 6,D` (R259). -/
def execRes6D (s : State) : Out := resOpnd 6 (.reg .d) s

/-- `RES 6,E` (R259). -/
def execRes6E (s : State) : Out := resOpnd 6 (.reg .e) s

/-- `RES 6,H` (R259). -/
def execRes6H (s : State) : Out := resOpnd 6 (.reg .h) s

/-- `RES 6,L` (R259). -/
def execRes6L (s : State) : Out := resOpnd 6 (.reg .l) s

/-- `RES 6,(HL)` (R260). -/
def execRes6Mhl (s : State) : Out := resOpnd 6 .mhl s

/-- `RES 6,A` (R259). -/
def execRes6A (s : State) : Out := resOpnd 6 (.reg .a) s

/-- `RES 7,B` (R259). -/
def execRes7B (s : State) : Out := resOpnd 7 (.reg .b) s

/-- `RES 7,C` (R259). -/
def execRes7C (s : State) : Out := resOpnd 7 (.reg .c) s

/-- `RES 7,D` (R259). -/
def execRes7D (s : State) : Out := resOpnd 7 (.reg .d) s

/-- `RES 7,E` (R259). -/
def execRes7E (s : State) : Out := resOpnd 7 (.reg .e) s

/-- `RES 7,H` (R259). -/
def execRes7H (s : State) : Out := resOpnd 7 (.reg .h) s

/-- `RES 7,L` (R259). -/
def execRes7L (s : State) : Out := resOpnd 7 (.reg .l) s

/-- `RES 7,(HL)` (R260). -/
def execRes7Mhl (s : State) : Out := resOpnd 7 .mhl s

/-- `RES 7,A` (R259). -/
def execRes7A (s : State) : Out := resOpnd 7 (.reg .a) s

end Sys2Proof.Machine
end

