-- ==== Sys2Proof/Machine/CbSet.lean ====
section
/-! DEFINITION. CB-prefixed bit sets (47_cb_prefixed.md R261, R262).
One definition per row of the opcode table, over the shared operations of Machine/CbRotate.lean. -/

namespace Sys2Proof.Machine

/-- `SET 0,B` (R261). -/
def execSet0B (s : State) : Out := setOpnd 0 (.reg .b) s

/-- `SET 0,C` (R261). -/
def execSet0C (s : State) : Out := setOpnd 0 (.reg .c) s

/-- `SET 0,D` (R261). -/
def execSet0D (s : State) : Out := setOpnd 0 (.reg .d) s

/-- `SET 0,E` (R261). -/
def execSet0E (s : State) : Out := setOpnd 0 (.reg .e) s

/-- `SET 0,H` (R261). -/
def execSet0H (s : State) : Out := setOpnd 0 (.reg .h) s

/-- `SET 0,L` (R261). -/
def execSet0L (s : State) : Out := setOpnd 0 (.reg .l) s

/-- `SET 0,(HL)` (R262). -/
def execSet0Mhl (s : State) : Out := setOpnd 0 .mhl s

/-- `SET 0,A` (R261). -/
def execSet0A (s : State) : Out := setOpnd 0 (.reg .a) s

/-- `SET 1,B` (R261). -/
def execSet1B (s : State) : Out := setOpnd 1 (.reg .b) s

/-- `SET 1,C` (R261). -/
def execSet1C (s : State) : Out := setOpnd 1 (.reg .c) s

/-- `SET 1,D` (R261). -/
def execSet1D (s : State) : Out := setOpnd 1 (.reg .d) s

/-- `SET 1,E` (R261). -/
def execSet1E (s : State) : Out := setOpnd 1 (.reg .e) s

/-- `SET 1,H` (R261). -/
def execSet1H (s : State) : Out := setOpnd 1 (.reg .h) s

/-- `SET 1,L` (R261). -/
def execSet1L (s : State) : Out := setOpnd 1 (.reg .l) s

/-- `SET 1,(HL)` (R262). -/
def execSet1Mhl (s : State) : Out := setOpnd 1 .mhl s

/-- `SET 1,A` (R261). -/
def execSet1A (s : State) : Out := setOpnd 1 (.reg .a) s

/-- `SET 2,B` (R261). -/
def execSet2B (s : State) : Out := setOpnd 2 (.reg .b) s

/-- `SET 2,C` (R261). -/
def execSet2C (s : State) : Out := setOpnd 2 (.reg .c) s

/-- `SET 2,D` (R261). -/
def execSet2D (s : State) : Out := setOpnd 2 (.reg .d) s

/-- `SET 2,E` (R261). -/
def execSet2E (s : State) : Out := setOpnd 2 (.reg .e) s

/-- `SET 2,H` (R261). -/
def execSet2H (s : State) : Out := setOpnd 2 (.reg .h) s

/-- `SET 2,L` (R261). -/
def execSet2L (s : State) : Out := setOpnd 2 (.reg .l) s

/-- `SET 2,(HL)` (R262). -/
def execSet2Mhl (s : State) : Out := setOpnd 2 .mhl s

/-- `SET 2,A` (R261). -/
def execSet2A (s : State) : Out := setOpnd 2 (.reg .a) s

/-- `SET 3,B` (R261). -/
def execSet3B (s : State) : Out := setOpnd 3 (.reg .b) s

/-- `SET 3,C` (R261). -/
def execSet3C (s : State) : Out := setOpnd 3 (.reg .c) s

/-- `SET 3,D` (R261). -/
def execSet3D (s : State) : Out := setOpnd 3 (.reg .d) s

/-- `SET 3,E` (R261). -/
def execSet3E (s : State) : Out := setOpnd 3 (.reg .e) s

/-- `SET 3,H` (R261). -/
def execSet3H (s : State) : Out := setOpnd 3 (.reg .h) s

/-- `SET 3,L` (R261). -/
def execSet3L (s : State) : Out := setOpnd 3 (.reg .l) s

/-- `SET 3,(HL)` (R262). -/
def execSet3Mhl (s : State) : Out := setOpnd 3 .mhl s

/-- `SET 3,A` (R261). -/
def execSet3A (s : State) : Out := setOpnd 3 (.reg .a) s

/-- `SET 4,B` (R261). -/
def execSet4B (s : State) : Out := setOpnd 4 (.reg .b) s

/-- `SET 4,C` (R261). -/
def execSet4C (s : State) : Out := setOpnd 4 (.reg .c) s

/-- `SET 4,D` (R261). -/
def execSet4D (s : State) : Out := setOpnd 4 (.reg .d) s

/-- `SET 4,E` (R261). -/
def execSet4E (s : State) : Out := setOpnd 4 (.reg .e) s

/-- `SET 4,H` (R261). -/
def execSet4H (s : State) : Out := setOpnd 4 (.reg .h) s

/-- `SET 4,L` (R261). -/
def execSet4L (s : State) : Out := setOpnd 4 (.reg .l) s

/-- `SET 4,(HL)` (R262). -/
def execSet4Mhl (s : State) : Out := setOpnd 4 .mhl s

/-- `SET 4,A` (R261). -/
def execSet4A (s : State) : Out := setOpnd 4 (.reg .a) s

/-- `SET 5,B` (R261). -/
def execSet5B (s : State) : Out := setOpnd 5 (.reg .b) s

/-- `SET 5,C` (R261). -/
def execSet5C (s : State) : Out := setOpnd 5 (.reg .c) s

/-- `SET 5,D` (R261). -/
def execSet5D (s : State) : Out := setOpnd 5 (.reg .d) s

/-- `SET 5,E` (R261). -/
def execSet5E (s : State) : Out := setOpnd 5 (.reg .e) s

/-- `SET 5,H` (R261). -/
def execSet5H (s : State) : Out := setOpnd 5 (.reg .h) s

/-- `SET 5,L` (R261). -/
def execSet5L (s : State) : Out := setOpnd 5 (.reg .l) s

/-- `SET 5,(HL)` (R262). -/
def execSet5Mhl (s : State) : Out := setOpnd 5 .mhl s

/-- `SET 5,A` (R261). -/
def execSet5A (s : State) : Out := setOpnd 5 (.reg .a) s

/-- `SET 6,B` (R261). -/
def execSet6B (s : State) : Out := setOpnd 6 (.reg .b) s

/-- `SET 6,C` (R261). -/
def execSet6C (s : State) : Out := setOpnd 6 (.reg .c) s

/-- `SET 6,D` (R261). -/
def execSet6D (s : State) : Out := setOpnd 6 (.reg .d) s

/-- `SET 6,E` (R261). -/
def execSet6E (s : State) : Out := setOpnd 6 (.reg .e) s

/-- `SET 6,H` (R261). -/
def execSet6H (s : State) : Out := setOpnd 6 (.reg .h) s

/-- `SET 6,L` (R261). -/
def execSet6L (s : State) : Out := setOpnd 6 (.reg .l) s

/-- `SET 6,(HL)` (R262). -/
def execSet6Mhl (s : State) : Out := setOpnd 6 .mhl s

/-- `SET 6,A` (R261). -/
def execSet6A (s : State) : Out := setOpnd 6 (.reg .a) s

/-- `SET 7,B` (R261). -/
def execSet7B (s : State) : Out := setOpnd 7 (.reg .b) s

/-- `SET 7,C` (R261). -/
def execSet7C (s : State) : Out := setOpnd 7 (.reg .c) s

/-- `SET 7,D` (R261). -/
def execSet7D (s : State) : Out := setOpnd 7 (.reg .d) s

/-- `SET 7,E` (R261). -/
def execSet7E (s : State) : Out := setOpnd 7 (.reg .e) s

/-- `SET 7,H` (R261). -/
def execSet7H (s : State) : Out := setOpnd 7 (.reg .h) s

/-- `SET 7,L` (R261). -/
def execSet7L (s : State) : Out := setOpnd 7 (.reg .l) s

/-- `SET 7,(HL)` (R262). -/
def execSet7Mhl (s : State) : Out := setOpnd 7 .mhl s

/-- `SET 7,A` (R261). -/
def execSet7A (s : State) : Out := setOpnd 7 (.reg .a) s

end Sys2Proof.Machine
end

