-- ==== Sys2Proof/Machine/Control.lean ====
section
/-! DEFINITION. Control and control flow (48_control.md), and the illegal bytes. No flag is written.
One definition per row of the opcode table, over the shared operations above them. -/

namespace Sys2Proof.Machine

/-- JR cc,e8 (R276). -/
def jumpRelIf (cc : Cond) (e : Byte) (s : State) : Out := finish (ifCond s cc (.ok (s.jumpRel e)))

/-- JP cc,a16 (R278). -/
def jumpIf (cc : Cond) (a : Word) (s : State) : Out := finish (ifCond s cc (.ok { s with pc := a }))

/-- CALL cc,a16 (R281): not taken, nothing is written and SP is unchanged. -/
def callIf (cc : Cond) (a : Word) (s : State) : Out := finish (ifCond s cc (callTo s a))

/-- RET cc (R283): not taken, nothing is read and SP is unchanged. -/
def retIf (cc : Cond) (s : State) : Out := finish (ifCond s cc (returnFromCall s))

/-- RST t (R285), with target `t * 8`. -/
def restart (t : Fin 8) (s : State) : Out := finish (callTo s (BitVec.ofNat 16 (t.val * 8)))

/-- `NOP` (R270). -/
def execNop (s : State) : Out := .next s

/-- `STOP` (R272): HALT plus a second byte that is fetched and ignored (D9). -/
def execStop (_n : Byte) (s : State) : Out := .next { s with halted := true }

/-- `JR e8` (R275). -/
def execJrE8 (e : Byte) (s : State) : Out := .next (s.jumpRel e)

/-- `JR NZ,e8` (R276). -/
def execJrNzE8 (e : Byte) (s : State) : Out := jumpRelIf .nz e s

/-- `JR Z,e8` (R276). -/
def execJrZE8 (e : Byte) (s : State) : Out := jumpRelIf .z e s

/-- `JR NC,e8` (R276). -/
def execJrNcE8 (e : Byte) (s : State) : Out := jumpRelIf .nc e s

/-- `JR C,e8` (R276). -/
def execJrCE8 (e : Byte) (s : State) : Out := jumpRelIf .c e s

/-- `HALT` (R271). -/
def execHalt (s : State) : Out := .next { s with halted := true }

/-- `RET NZ` (R283). -/
def execRetNz (s : State) : Out := retIf .nz s

/-- `JP NZ,a16` (R278). -/
def execJpNzA16 (a : Word) (s : State) : Out := jumpIf .nz a s

/-- `JP a16` (R277). -/
def execJpA16 (a : Word) (s : State) : Out := .next { s with pc := a }

/-- `CALL NZ,a16` (R281). -/
def execCallNzA16 (a : Word) (s : State) : Out := callIf .nz a s

/-- `RST 00H` (R285). -/
def execRst00h (s : State) : Out := restart 0 s

/-- `RET Z` (R283). -/
def execRetZ (s : State) : Out := retIf .z s

/-- `RET` (R282). -/
def execRet (s : State) : Out := finish (returnFromCall s)

/-- `JP Z,a16` (R278). -/
def execJpZA16 (a : Word) (s : State) : Out := jumpIf .z a s

/-- `CALL Z,a16` (R281). -/
def execCallZA16 (a : Word) (s : State) : Out := callIf .z a s

/-- `CALL a16` (R280). -/
def execCallA16 (a : Word) (s : State) : Out := finish (callTo s a)

/-- `RST 08H` (R285). -/
def execRst08h (s : State) : Out := restart 1 s

/-- `RET NC` (R283). -/
def execRetNc (s : State) : Out := retIf .nc s

/-- `JP NC,a16` (R278). -/
def execJpNcA16 (a : Word) (s : State) : Out := jumpIf .nc a s

/-- `CALL NC,a16` (R281). -/
def execCallNcA16 (a : Word) (s : State) : Out := callIf .nc a s

/-- `RST 10H` (R285). -/
def execRst10h (s : State) : Out := restart 2 s

/-- `RET C` (R283). -/
def execRetC (s : State) : Out := retIf .c s

/-- `RETI` (R284): `ime` at once; `ime_pending` unchanged. -/
def execReti (s : State) : Out :=
  finish (do
    let s ← returnFromCall s
    return { s with ime := true })

/-- `JP C,a16` (R278). -/
def execJpCA16 (a : Word) (s : State) : Out := jumpIf .c a s

/-- `CALL C,a16` (R281). -/
def execCallCA16 (a : Word) (s : State) : Out := callIf .c a s

/-- `RST 18H` (R285). -/
def execRst18h (s : State) : Out := restart 3 s

/-- `RST 20H` (R285). -/
def execRst20h (s : State) : Out := restart 4 s

/-- `JP HL` (R279). -/
def execJpHl (s : State) : Out := .next { s with pc := s.hl }

/-- `RST 28H` (R285). -/
def execRst28h (s : State) : Out := restart 5 s

/-- `DI` (R273): cancels a pending EI too. -/
def execDi (s : State) : Out := .next { s with ime := false, imePending := false }

/-- `RST 30H` (R285). -/
def execRst30h (s : State) : Out := restart 6 s

/-- `EI` (R274): `ime` follows at the end of the next step (R98). -/
def execEi (s : State) : Out := .next { s with imePending := true }

/-- `RST 38H` (R285). -/
def execRst38h (s : State) : Out := restart 7 s

/-- An illegal byte (R78, R94): the handler raises `InvalidOpcode`, with no other effect. -/
def execIllegal (op : Byte) (s : State) : Out := raiseFatal (.invalidOpcode op) s

end Sys2Proof.Machine
end

