-- ==== Sys2Proof/Machine/Loads16.lean ====
section
/-! DEFINITION. 16-bit loads and the stack (43_loads16_stack.md).
One definition per row of the opcode table, over the shared operations above them. -/

namespace Sys2Proof.Machine

/-- LD rr,d16 (R170). -/
def loadPairImm (p : RR) (v : Word) (s : State) : Out := .next (s.setR16 p.view v)

/-- PUSH rr (R174). -/
def pushPair (p : StkPair) (s : State) : Out := finish (push16 s (s.getR16 p.view))

/-- POP rr (R175): POP AF masks F. -/
def popPair (p : StkPair) (s : State) : Out :=
  finish (do
    let r ← pop16 s
    return r.2.setR16 p.view r.1)

/-- `LD BC,d16` (R170). -/
def execLdBcD16 (v : Word) (s : State) : Out := loadPairImm .bc v s

/-- `LD (a16),SP` (R171). -/
def execLdMa16Sp (a : Word) (s : State) : Out := finish (storeWord s a s.sp)

/-- `LD DE,d16` (R170). -/
def execLdDeD16 (v : Word) (s : State) : Out := loadPairImm .de v s

/-- `LD HL,d16` (R170). -/
def execLdHlD16 (v : Word) (s : State) : Out := loadPairImm .hl v s

/-- `LD SP,d16` (R170). -/
def execLdSpD16 (v : Word) (s : State) : Out := loadPairImm .sp v s

/-- `POP BC` (R175). -/
def execPopBc (s : State) : Out := popPair .bc s

/-- `PUSH BC` (R174). -/
def execPushBc (s : State) : Out := pushPair .bc s

/-- `POP DE` (R175). -/
def execPopDe (s : State) : Out := popPair .de s

/-- `PUSH DE` (R174). -/
def execPushDe (s : State) : Out := pushPair .de s

/-- `POP HL` (R175). -/
def execPopHl (s : State) : Out := popPair .hl s

/-- `PUSH HL` (R174). -/
def execPushHl (s : State) : Out := pushPair .hl s

/-- `POP AF` (R175). -/
def execPopAf (s : State) : Out := popPair .af s

/-- `PUSH AF` (R174). -/
def execPushAf (s : State) : Out := pushPair .af s

/-- `LD HL,SP+e8` (R173). -/
def execLdHlSpE8 (e : Byte) (s : State) : Out :=
  let r := spPlusE8 s.f s.sp e
  .next (State.setHL { s with f := r.2 } r.1)

/-- `LD SP,HL` (R172). -/
def execLdSpHl (s : State) : Out := .next { s with sp := s.hl }

end Sys2Proof.Machine
end

