-- ==== Sys2Proof/Machine/Loads8.lean ====
section
/-! DEFINITION. 8-bit loads (42_loads8.md): no flag is written.
One definition per row of the opcode table, over the shared operations above them. -/

namespace Sys2Proof.Machine

/-- LD r,r' (R140). -/
def loadReg (d r : Reg) (s : State) : Out := .next (s.setReg d (s.reg r))

/-- LD r,d8 (R141). -/
def loadImm (d : Reg) (n : Byte) (s : State) : Out := .next (s.setReg d n)

/-- LD r,(HL) (R142): the address is read before `d` is written. -/
def loadRegHL (d : Reg) (s : State) : Out :=
  finish (do
    let v ← load s s.hl
    return s.setReg d v)

/-- LD (HL),r (R143). -/
def storeHLReg (r : Reg) (s : State) : Out := finish (store s s.hl (s.reg r))

/-- LD A,(BC), LD A,(DE), LD A,(HL+), LD A,(HL-) (R145, R146, R151, R152). -/
def loadAInd (m : Ind) (s : State) : Out :=
  finish (do
    let v ← load s (indAddr s m)
    return indAdvance { s with a := v } m)

/-- LD (BC),A, LD (DE),A, LD (HL+),A, LD (HL-),A (R147-R150): HL moves only after the write. -/
def storeIndA (m : Ind) (s : State) : Out :=
  finish (do
    let s ← store s (indAddr s m) s.a
    return indAdvance s m)

/-- `LD (BC),A` (R147). -/
def execLdMbcA (s : State) : Out := storeIndA .bc s

/-- `LD B,d8` (R141). -/
def execLdBD8 (n : Byte) (s : State) : Out := loadImm .b n s

/-- `LD A,(BC)` (R145). -/
def execLdAMbc (s : State) : Out := loadAInd .bc s

/-- `LD C,d8` (R141). -/
def execLdCD8 (n : Byte) (s : State) : Out := loadImm .c n s

/-- `LD (DE),A` (R148). -/
def execLdMdeA (s : State) : Out := storeIndA .de s

/-- `LD D,d8` (R141). -/
def execLdDD8 (n : Byte) (s : State) : Out := loadImm .d n s

/-- `LD A,(DE)` (R146). -/
def execLdAMde (s : State) : Out := loadAInd .de s

/-- `LD E,d8` (R141). -/
def execLdED8 (n : Byte) (s : State) : Out := loadImm .e n s

/-- `LD (HL+),A` (R149). -/
def execLdMhliA (s : State) : Out := storeIndA .hlInc s

/-- `LD H,d8` (R141). -/
def execLdHD8 (n : Byte) (s : State) : Out := loadImm .h n s

/-- `LD A,(HL+)` (R151). -/
def execLdAMhli (s : State) : Out := loadAInd .hlInc s

/-- `LD L,d8` (R141). -/
def execLdLD8 (n : Byte) (s : State) : Out := loadImm .l n s

/-- `LD (HL-),A` (R150). -/
def execLdMhldA (s : State) : Out := storeIndA .hlDec s

/-- `LD (HL),d8` (R144). -/
def execLdMhlD8 (n : Byte) (s : State) : Out := finish (store s s.hl n)

/-- `LD A,(HL-)` (R152). -/
def execLdAMhld (s : State) : Out := loadAInd .hlDec s

/-- `LD A,d8` (R141). -/
def execLdAD8 (n : Byte) (s : State) : Out := loadImm .a n s

/-- `LD B,B` (R140). -/
def execLdBB (s : State) : Out := loadReg .b .b s

/-- `LD B,C` (R140). -/
def execLdBC (s : State) : Out := loadReg .b .c s

/-- `LD B,D` (R140). -/
def execLdBD (s : State) : Out := loadReg .b .d s

/-- `LD B,E` (R140). -/
def execLdBE (s : State) : Out := loadReg .b .e s

/-- `LD B,H` (R140). -/
def execLdBH (s : State) : Out := loadReg .b .h s

/-- `LD B,L` (R140). -/
def execLdBL (s : State) : Out := loadReg .b .l s

/-- `LD B,(HL)` (R142). -/
def execLdBMhl (s : State) : Out := loadRegHL .b s

/-- `LD B,A` (R140). -/
def execLdBA (s : State) : Out := loadReg .b .a s

/-- `LD C,B` (R140). -/
def execLdCB (s : State) : Out := loadReg .c .b s

/-- `LD C,C` (R140). -/
def execLdCC (s : State) : Out := loadReg .c .c s

/-- `LD C,D` (R140). -/
def execLdCD (s : State) : Out := loadReg .c .d s

/-- `LD C,E` (R140). -/
def execLdCE (s : State) : Out := loadReg .c .e s

/-- `LD C,H` (R140). -/
def execLdCH (s : State) : Out := loadReg .c .h s

/-- `LD C,L` (R140). -/
def execLdCL (s : State) : Out := loadReg .c .l s

/-- `LD C,(HL)` (R142). -/
def execLdCMhl (s : State) : Out := loadRegHL .c s

/-- `LD C,A` (R140). -/
def execLdCA (s : State) : Out := loadReg .c .a s

/-- `LD D,B` (R140). -/
def execLdDB (s : State) : Out := loadReg .d .b s

/-- `LD D,C` (R140). -/
def execLdDC (s : State) : Out := loadReg .d .c s

/-- `LD D,D` (R140). -/
def execLdDD (s : State) : Out := loadReg .d .d s

/-- `LD D,E` (R140). -/
def execLdDE (s : State) : Out := loadReg .d .e s

/-- `LD D,H` (R140). -/
def execLdDH (s : State) : Out := loadReg .d .h s

/-- `LD D,L` (R140). -/
def execLdDL (s : State) : Out := loadReg .d .l s

/-- `LD D,(HL)` (R142). -/
def execLdDMhl (s : State) : Out := loadRegHL .d s

/-- `LD D,A` (R140). -/
def execLdDA (s : State) : Out := loadReg .d .a s

/-- `LD E,B` (R140). -/
def execLdEB (s : State) : Out := loadReg .e .b s

/-- `LD E,C` (R140). -/
def execLdEC (s : State) : Out := loadReg .e .c s

/-- `LD E,D` (R140). -/
def execLdED (s : State) : Out := loadReg .e .d s

/-- `LD E,E` (R140). -/
def execLdEE (s : State) : Out := loadReg .e .e s

/-- `LD E,H` (R140). -/
def execLdEH (s : State) : Out := loadReg .e .h s

/-- `LD E,L` (R140). -/
def execLdEL (s : State) : Out := loadReg .e .l s

/-- `LD E,(HL)` (R142). -/
def execLdEMhl (s : State) : Out := loadRegHL .e s

/-- `LD E,A` (R140). -/
def execLdEA (s : State) : Out := loadReg .e .a s

/-- `LD H,B` (R140). -/
def execLdHB (s : State) : Out := loadReg .h .b s

/-- `LD H,C` (R140). -/
def execLdHC (s : State) : Out := loadReg .h .c s

/-- `LD H,D` (R140). -/
def execLdHD (s : State) : Out := loadReg .h .d s

/-- `LD H,E` (R140). -/
def execLdHE (s : State) : Out := loadReg .h .e s

/-- `LD H,H` (R140). -/
def execLdHH (s : State) : Out := loadReg .h .h s

/-- `LD H,L` (R140). -/
def execLdHL (s : State) : Out := loadReg .h .l s

/-- `LD H,(HL)` (R142). -/
def execLdHMhl (s : State) : Out := loadRegHL .h s

/-- `LD H,A` (R140). -/
def execLdHA (s : State) : Out := loadReg .h .a s

/-- `LD L,B` (R140). -/
def execLdLB (s : State) : Out := loadReg .l .b s

/-- `LD L,C` (R140). -/
def execLdLC (s : State) : Out := loadReg .l .c s

/-- `LD L,D` (R140). -/
def execLdLD (s : State) : Out := loadReg .l .d s

/-- `LD L,E` (R140). -/
def execLdLE (s : State) : Out := loadReg .l .e s

/-- `LD L,H` (R140). -/
def execLdLH (s : State) : Out := loadReg .l .h s

/-- `LD L,L` (R140). -/
def execLdLL (s : State) : Out := loadReg .l .l s

/-- `LD L,(HL)` (R142). -/
def execLdLMhl (s : State) : Out := loadRegHL .l s

/-- `LD L,A` (R140). -/
def execLdLA (s : State) : Out := loadReg .l .a s

/-- `LD (HL),B` (R143). -/
def execLdMhlB (s : State) : Out := storeHLReg .b s

/-- `LD (HL),C` (R143). -/
def execLdMhlC (s : State) : Out := storeHLReg .c s

/-- `LD (HL),D` (R143). -/
def execLdMhlD (s : State) : Out := storeHLReg .d s

/-- `LD (HL),E` (R143). -/
def execLdMhlE (s : State) : Out := storeHLReg .e s

/-- `LD (HL),H` (R143). -/
def execLdMhlH (s : State) : Out := storeHLReg .h s

/-- `LD (HL),L` (R143). -/
def execLdMhlL (s : State) : Out := storeHLReg .l s

/-- `LD (HL),A` (R143). -/
def execLdMhlA (s : State) : Out := storeHLReg .a s

/-- `LD A,B` (R140). -/
def execLdAB (s : State) : Out := loadReg .a .b s

/-- `LD A,C` (R140). -/
def execLdAC (s : State) : Out := loadReg .a .c s

/-- `LD A,D` (R140). -/
def execLdAD (s : State) : Out := loadReg .a .d s

/-- `LD A,E` (R140). -/
def execLdAE (s : State) : Out := loadReg .a .e s

/-- `LD A,H` (R140). -/
def execLdAH (s : State) : Out := loadReg .a .h s

/-- `LD A,L` (R140). -/
def execLdAL (s : State) : Out := loadReg .a .l s

/-- `LD A,(HL)` (R142). -/
def execLdAMhl (s : State) : Out := loadRegHL .a s

/-- `LD A,A` (R140). -/
def execLdAA (s : State) : Out := loadReg .a .a s

/-- `LDH (a8),A` (R155). -/
def execLdhMa8A (n : Byte) (s : State) : Out := finish (store s (pageAddr n) s.a)

/-- `LD (C),A` (R157). -/
def execLdMcA (s : State) : Out := finish (store s (pageAddr s.c) s.a)

/-- `LD (a16),A` (R153). -/
def execLdMa16A (a : Word) (s : State) : Out := finish (store s a s.a)

/-- `LDH A,(a8)` (R156). -/
def execLdhAMa8 (n : Byte) (s : State) : Out :=
  finish (do
    let v ← load s (pageAddr n)
    return { s with a := v })

/-- `LD A,(C)` (R158). -/
def execLdAMc (s : State) : Out :=
  finish (do
    let v ← load s (pageAddr s.c)
    return { s with a := v })

/-- `LD A,(a16)` (R154). -/
def execLdAMa16 (a : Word) (s : State) : Out :=
  finish (do
    let v ← load s a
    return { s with a := v })

end Sys2Proof.Machine
end

