-- ==== Sys2Proof/Machine/Dispatch.lean ====
section
/-! DEFINITION. Dispatch: every instruction to its meaning (40_engine.md R93). -/

namespace Sys2Proof.Machine

def exec (i : Instr) (s : State) : Host.Outcome State Fault Refusal :=
  match i with
  | .nop => Sys2Proof.Machine.execNop s
  | .ld_bc_d16 v => Sys2Proof.Machine.execLdBcD16 v s
  | .ld_mbc_a => Sys2Proof.Machine.execLdMbcA s
  | .inc_bc => Sys2Proof.Machine.execIncBc s
  | .inc_b => Sys2Proof.Machine.execIncB s
  | .dec_b => Sys2Proof.Machine.execDecB s
  | .ld_b_d8 n => Sys2Proof.Machine.execLdBD8 n s
  | .rlca => Sys2Proof.Machine.execRlca s
  | .ld_ma16_sp a => Sys2Proof.Machine.execLdMa16Sp a s
  | .add_hl_bc => Sys2Proof.Machine.execAddHlBc s
  | .ld_a_mbc => Sys2Proof.Machine.execLdAMbc s
  | .dec_bc => Sys2Proof.Machine.execDecBc s
  | .inc_c => Sys2Proof.Machine.execIncC s
  | .dec_c => Sys2Proof.Machine.execDecC s
  | .ld_c_d8 n => Sys2Proof.Machine.execLdCD8 n s
  | .rrca => Sys2Proof.Machine.execRrca s
  | .stop n => Sys2Proof.Machine.execStop n s
  | .ld_de_d16 v => Sys2Proof.Machine.execLdDeD16 v s
  | .ld_mde_a => Sys2Proof.Machine.execLdMdeA s
  | .inc_de => Sys2Proof.Machine.execIncDe s
  | .inc_d => Sys2Proof.Machine.execIncD s
  | .dec_d => Sys2Proof.Machine.execDecD s
  | .ld_d_d8 n => Sys2Proof.Machine.execLdDD8 n s
  | .rla => Sys2Proof.Machine.execRla s
  | .jr_e8 e => Sys2Proof.Machine.execJrE8 e s
  | .add_hl_de => Sys2Proof.Machine.execAddHlDe s
  | .ld_a_mde => Sys2Proof.Machine.execLdAMde s
  | .dec_de => Sys2Proof.Machine.execDecDe s
  | .inc_e => Sys2Proof.Machine.execIncE s
  | .dec_e => Sys2Proof.Machine.execDecE s
  | .ld_e_d8 n => Sys2Proof.Machine.execLdED8 n s
  | .rra => Sys2Proof.Machine.execRra s
  | .jr_nz_e8 e => Sys2Proof.Machine.execJrNzE8 e s
  | .ld_hl_d16 v => Sys2Proof.Machine.execLdHlD16 v s
  | .ld_mhli_a => Sys2Proof.Machine.execLdMhliA s
  | .inc_hl => Sys2Proof.Machine.execIncHl s
  | .inc_h => Sys2Proof.Machine.execIncH s
  | .dec_h => Sys2Proof.Machine.execDecH s
  | .ld_h_d8 n => Sys2Proof.Machine.execLdHD8 n s
  | .daa => Sys2Proof.Machine.execDaa s
  | .jr_z_e8 e => Sys2Proof.Machine.execJrZE8 e s
  | .add_hl_hl => Sys2Proof.Machine.execAddHlHl s
  | .ld_a_mhli => Sys2Proof.Machine.execLdAMhli s
  | .dec_hl => Sys2Proof.Machine.execDecHl s
  | .inc_l => Sys2Proof.Machine.execIncL s
  | .dec_l => Sys2Proof.Machine.execDecL s
  | .ld_l_d8 n => Sys2Proof.Machine.execLdLD8 n s
  | .cpl => Sys2Proof.Machine.execCpl s
  | .jr_nc_e8 e => Sys2Proof.Machine.execJrNcE8 e s
  | .ld_sp_d16 v => Sys2Proof.Machine.execLdSpD16 v s
  | .ld_mhld_a => Sys2Proof.Machine.execLdMhldA s
  | .inc_sp => Sys2Proof.Machine.execIncSp s
  | .inc_mhl => Sys2Proof.Machine.execIncMhl s
  | .dec_mhl => Sys2Proof.Machine.execDecMhl s
  | .ld_mhl_d8 n => Sys2Proof.Machine.execLdMhlD8 n s
  | .scf => Sys2Proof.Machine.execScf s
  | .jr_c_e8 e => Sys2Proof.Machine.execJrCE8 e s
  | .add_hl_sp => Sys2Proof.Machine.execAddHlSp s
  | .ld_a_mhld => Sys2Proof.Machine.execLdAMhld s
  | .dec_sp => Sys2Proof.Machine.execDecSp s
  | .inc_a => Sys2Proof.Machine.execIncA s
  | .dec_a => Sys2Proof.Machine.execDecA s
  | .ld_a_d8 n => Sys2Proof.Machine.execLdAD8 n s
  | .ccf => Sys2Proof.Machine.execCcf s
  | .ld_b_b => Sys2Proof.Machine.execLdBB s
  | .ld_b_c => Sys2Proof.Machine.execLdBC s
  | .ld_b_d => Sys2Proof.Machine.execLdBD s
  | .ld_b_e => Sys2Proof.Machine.execLdBE s
  | .ld_b_h => Sys2Proof.Machine.execLdBH s
  | .ld_b_l => Sys2Proof.Machine.execLdBL s
  | .ld_b_mhl => Sys2Proof.Machine.execLdBMhl s
  | .ld_b_a => Sys2Proof.Machine.execLdBA s
  | .ld_c_b => Sys2Proof.Machine.execLdCB s
  | .ld_c_c => Sys2Proof.Machine.execLdCC s
  | .ld_c_d => Sys2Proof.Machine.execLdCD s
  | .ld_c_e => Sys2Proof.Machine.execLdCE s
  | .ld_c_h => Sys2Proof.Machine.execLdCH s
  | .ld_c_l => Sys2Proof.Machine.execLdCL s
  | .ld_c_mhl => Sys2Proof.Machine.execLdCMhl s
  | .ld_c_a => Sys2Proof.Machine.execLdCA s
  | .ld_d_b => Sys2Proof.Machine.execLdDB s
  | .ld_d_c => Sys2Proof.Machine.execLdDC s
  | .ld_d_d => Sys2Proof.Machine.execLdDD s
  | .ld_d_e => Sys2Proof.Machine.execLdDE s
  | .ld_d_h => Sys2Proof.Machine.execLdDH s
  | .ld_d_l => Sys2Proof.Machine.execLdDL s
  | .ld_d_mhl => Sys2Proof.Machine.execLdDMhl s
  | .ld_d_a => Sys2Proof.Machine.execLdDA s
  | .ld_e_b => Sys2Proof.Machine.execLdEB s
  | .ld_e_c => Sys2Proof.Machine.execLdEC s
  | .ld_e_d => Sys2Proof.Machine.execLdED s
  | .ld_e_e => Sys2Proof.Machine.execLdEE s
  | .ld_e_h => Sys2Proof.Machine.execLdEH s
  | .ld_e_l => Sys2Proof.Machine.execLdEL s
  | .ld_e_mhl => Sys2Proof.Machine.execLdEMhl s
  | .ld_e_a => Sys2Proof.Machine.execLdEA s
  | .ld_h_b => Sys2Proof.Machine.execLdHB s
  | .ld_h_c => Sys2Proof.Machine.execLdHC s
  | .ld_h_d => Sys2Proof.Machine.execLdHD s
  | .ld_h_e => Sys2Proof.Machine.execLdHE s
  | .ld_h_h => Sys2Proof.Machine.execLdHH s
  | .ld_h_l => Sys2Proof.Machine.execLdHL s
  | .ld_h_mhl => Sys2Proof.Machine.execLdHMhl s
  | .ld_h_a => Sys2Proof.Machine.execLdHA s
  | .ld_l_b => Sys2Proof.Machine.execLdLB s
  | .ld_l_c => Sys2Proof.Machine.execLdLC s
  | .ld_l_d => Sys2Proof.Machine.execLdLD s
  | .ld_l_e => Sys2Proof.Machine.execLdLE s
  | .ld_l_h => Sys2Proof.Machine.execLdLH s
  | .ld_l_l => Sys2Proof.Machine.execLdLL s
  | .ld_l_mhl => Sys2Proof.Machine.execLdLMhl s
  | .ld_l_a => Sys2Proof.Machine.execLdLA s
  | .ld_mhl_b => Sys2Proof.Machine.execLdMhlB s
  | .ld_mhl_c => Sys2Proof.Machine.execLdMhlC s
  | .ld_mhl_d => Sys2Proof.Machine.execLdMhlD s
  | .ld_mhl_e => Sys2Proof.Machine.execLdMhlE s
  | .ld_mhl_h => Sys2Proof.Machine.execLdMhlH s
  | .ld_mhl_l => Sys2Proof.Machine.execLdMhlL s
  | .halt => Sys2Proof.Machine.execHalt s
  | .ld_mhl_a => Sys2Proof.Machine.execLdMhlA s
  | .ld_a_b => Sys2Proof.Machine.execLdAB s
  | .ld_a_c => Sys2Proof.Machine.execLdAC s
  | .ld_a_d => Sys2Proof.Machine.execLdAD s
  | .ld_a_e => Sys2Proof.Machine.execLdAE s
  | .ld_a_h => Sys2Proof.Machine.execLdAH s
  | .ld_a_l => Sys2Proof.Machine.execLdAL s
  | .ld_a_mhl => Sys2Proof.Machine.execLdAMhl s
  | .ld_a_a => Sys2Proof.Machine.execLdAA s
  | .add_a_b => Sys2Proof.Machine.execAddAB s
  | .add_a_c => Sys2Proof.Machine.execAddAC s
  | .add_a_d => Sys2Proof.Machine.execAddAD s
  | .add_a_e => Sys2Proof.Machine.execAddAE s
  | .add_a_h => Sys2Proof.Machine.execAddAH s
  | .add_a_l => Sys2Proof.Machine.execAddAL s
  | .add_a_mhl => Sys2Proof.Machine.execAddAMhl s
  | .add_a_a => Sys2Proof.Machine.execAddAA s
  | .adc_a_b => Sys2Proof.Machine.execAdcAB s
  | .adc_a_c => Sys2Proof.Machine.execAdcAC s
  | .adc_a_d => Sys2Proof.Machine.execAdcAD s
  | .adc_a_e => Sys2Proof.Machine.execAdcAE s
  | .adc_a_h => Sys2Proof.Machine.execAdcAH s
  | .adc_a_l => Sys2Proof.Machine.execAdcAL s
  | .adc_a_mhl => Sys2Proof.Machine.execAdcAMhl s
  | .adc_a_a => Sys2Proof.Machine.execAdcAA s
  | .sub_b => Sys2Proof.Machine.execSubB s
  | .sub_c => Sys2Proof.Machine.execSubC s
  | .sub_d => Sys2Proof.Machine.execSubD s
  | .sub_e => Sys2Proof.Machine.execSubE s
  | .sub_h => Sys2Proof.Machine.execSubH s
  | .sub_l => Sys2Proof.Machine.execSubL s
  | .sub_mhl => Sys2Proof.Machine.execSubMhl s
  | .sub_a => Sys2Proof.Machine.execSubA s
  | .sbc_a_b => Sys2Proof.Machine.execSbcAB s
  | .sbc_a_c => Sys2Proof.Machine.execSbcAC s
  | .sbc_a_d => Sys2Proof.Machine.execSbcAD s
  | .sbc_a_e => Sys2Proof.Machine.execSbcAE s
  | .sbc_a_h => Sys2Proof.Machine.execSbcAH s
  | .sbc_a_l => Sys2Proof.Machine.execSbcAL s
  | .sbc_a_mhl => Sys2Proof.Machine.execSbcAMhl s
  | .sbc_a_a => Sys2Proof.Machine.execSbcAA s
  | .and_b => Sys2Proof.Machine.execAndB s
  | .and_c => Sys2Proof.Machine.execAndC s
  | .and_d => Sys2Proof.Machine.execAndD s
  | .and_e => Sys2Proof.Machine.execAndE s
  | .and_h => Sys2Proof.Machine.execAndH s
  | .and_l => Sys2Proof.Machine.execAndL s
  | .and_mhl => Sys2Proof.Machine.execAndMhl s
  | .and_a => Sys2Proof.Machine.execAndA s
  | .xor_b => Sys2Proof.Machine.execXorB s
  | .xor_c => Sys2Proof.Machine.execXorC s
  | .xor_d => Sys2Proof.Machine.execXorD s
  | .xor_e => Sys2Proof.Machine.execXorE s
  | .xor_h => Sys2Proof.Machine.execXorH s
  | .xor_l => Sys2Proof.Machine.execXorL s
  | .xor_mhl => Sys2Proof.Machine.execXorMhl s
  | .xor_a => Sys2Proof.Machine.execXorA s
  | .or_b => Sys2Proof.Machine.execOrB s
  | .or_c => Sys2Proof.Machine.execOrC s
  | .or_d => Sys2Proof.Machine.execOrD s
  | .or_e => Sys2Proof.Machine.execOrE s
  | .or_h => Sys2Proof.Machine.execOrH s
  | .or_l => Sys2Proof.Machine.execOrL s
  | .or_mhl => Sys2Proof.Machine.execOrMhl s
  | .or_a => Sys2Proof.Machine.execOrA s
  | .cp_b => Sys2Proof.Machine.execCpB s
  | .cp_c => Sys2Proof.Machine.execCpC s
  | .cp_d => Sys2Proof.Machine.execCpD s
  | .cp_e => Sys2Proof.Machine.execCpE s
  | .cp_h => Sys2Proof.Machine.execCpH s
  | .cp_l => Sys2Proof.Machine.execCpL s
  | .cp_mhl => Sys2Proof.Machine.execCpMhl s
  | .cp_a => Sys2Proof.Machine.execCpA s
  | .ret_nz => Sys2Proof.Machine.execRetNz s
  | .pop_bc => Sys2Proof.Machine.execPopBc s
  | .jp_nz_a16 a => Sys2Proof.Machine.execJpNzA16 a s
  | .jp_a16 a => Sys2Proof.Machine.execJpA16 a s
  | .call_nz_a16 a => Sys2Proof.Machine.execCallNzA16 a s
  | .push_bc => Sys2Proof.Machine.execPushBc s
  | .add_a_d8 n => Sys2Proof.Machine.execAddAD8 n s
  | .rst_00h => Sys2Proof.Machine.execRst00h s
  | .ret_z => Sys2Proof.Machine.execRetZ s
  | .ret => Sys2Proof.Machine.execRet s
  | .jp_z_a16 a => Sys2Proof.Machine.execJpZA16 a s
  | .prefix_cb op2 => Sys2Proof.Machine.execPrefixCb op2 s
  | .call_z_a16 a => Sys2Proof.Machine.execCallZA16 a s
  | .call_a16 a => Sys2Proof.Machine.execCallA16 a s
  | .adc_a_d8 n => Sys2Proof.Machine.execAdcAD8 n s
  | .rst_08h => Sys2Proof.Machine.execRst08h s
  | .ret_nc => Sys2Proof.Machine.execRetNc s
  | .pop_de => Sys2Proof.Machine.execPopDe s
  | .jp_nc_a16 a => Sys2Proof.Machine.execJpNcA16 a s
  | .call_nc_a16 a => Sys2Proof.Machine.execCallNcA16 a s
  | .push_de => Sys2Proof.Machine.execPushDe s
  | .sub_d8 n => Sys2Proof.Machine.execSubD8 n s
  | .rst_10h => Sys2Proof.Machine.execRst10h s
  | .ret_c => Sys2Proof.Machine.execRetC s
  | .reti => Sys2Proof.Machine.execReti s
  | .jp_c_a16 a => Sys2Proof.Machine.execJpCA16 a s
  | .call_c_a16 a => Sys2Proof.Machine.execCallCA16 a s
  | .sbc_a_d8 n => Sys2Proof.Machine.execSbcAD8 n s
  | .rst_18h => Sys2Proof.Machine.execRst18h s
  | .ldh_ma8_a n => Sys2Proof.Machine.execLdhMa8A n s
  | .pop_hl => Sys2Proof.Machine.execPopHl s
  | .ld_mc_a => Sys2Proof.Machine.execLdMcA s
  | .push_hl => Sys2Proof.Machine.execPushHl s
  | .and_d8 n => Sys2Proof.Machine.execAndD8 n s
  | .rst_20h => Sys2Proof.Machine.execRst20h s
  | .add_sp_e8 e => Sys2Proof.Machine.execAddSpE8 e s
  | .jp_hl => Sys2Proof.Machine.execJpHl s
  | .ld_ma16_a a => Sys2Proof.Machine.execLdMa16A a s
  | .xor_d8 n => Sys2Proof.Machine.execXorD8 n s
  | .rst_28h => Sys2Proof.Machine.execRst28h s
  | .ldh_a_ma8 n => Sys2Proof.Machine.execLdhAMa8 n s
  | .pop_af => Sys2Proof.Machine.execPopAf s
  | .ld_a_mc => Sys2Proof.Machine.execLdAMc s
  | .di => Sys2Proof.Machine.execDi s
  | .push_af => Sys2Proof.Machine.execPushAf s
  | .or_d8 n => Sys2Proof.Machine.execOrD8 n s
  | .rst_30h => Sys2Proof.Machine.execRst30h s
  | .ld_hl_sp_e8 e => Sys2Proof.Machine.execLdHlSpE8 e s
  | .ld_sp_hl => Sys2Proof.Machine.execLdSpHl s
  | .ld_a_ma16 a => Sys2Proof.Machine.execLdAMa16 a s
  | .ei => Sys2Proof.Machine.execEi s
  | .cp_d8 n => Sys2Proof.Machine.execCpD8 n s
  | .rst_38h => Sys2Proof.Machine.execRst38h s
  | .rlc_b => Sys2Proof.Machine.execRlcB s
  | .rlc_c => Sys2Proof.Machine.execRlcC s
  | .rlc_d => Sys2Proof.Machine.execRlcD s
  | .rlc_e => Sys2Proof.Machine.execRlcE s
  | .rlc_h => Sys2Proof.Machine.execRlcH s
  | .rlc_l => Sys2Proof.Machine.execRlcL s
  | .rlc_mhl => Sys2Proof.Machine.execRlcMhl s
  | .rlc_a => Sys2Proof.Machine.execRlcA s
  | .rrc_b => Sys2Proof.Machine.execRrcB s
  | .rrc_c => Sys2Proof.Machine.execRrcC s
  | .rrc_d => Sys2Proof.Machine.execRrcD s
  | .rrc_e => Sys2Proof.Machine.execRrcE s
  | .rrc_h => Sys2Proof.Machine.execRrcH s
  | .rrc_l => Sys2Proof.Machine.execRrcL s
  | .rrc_mhl => Sys2Proof.Machine.execRrcMhl s
  | .rrc_a => Sys2Proof.Machine.execRrcA s
  | .rl_b => Sys2Proof.Machine.execRlB s
  | .rl_c => Sys2Proof.Machine.execRlC s
  | .rl_d => Sys2Proof.Machine.execRlD s
  | .rl_e => Sys2Proof.Machine.execRlE s
  | .rl_h => Sys2Proof.Machine.execRlH s
  | .rl_l => Sys2Proof.Machine.execRlL s
  | .rl_mhl => Sys2Proof.Machine.execRlMhl s
  | .rl_a => Sys2Proof.Machine.execRlA s
  | .rr_b => Sys2Proof.Machine.execRrB s
  | .rr_c => Sys2Proof.Machine.execRrC s
  | .rr_d => Sys2Proof.Machine.execRrD s
  | .rr_e => Sys2Proof.Machine.execRrE s
  | .rr_h => Sys2Proof.Machine.execRrH s
  | .rr_l => Sys2Proof.Machine.execRrL s
  | .rr_mhl => Sys2Proof.Machine.execRrMhl s
  | .rr_a => Sys2Proof.Machine.execRrA s
  | .sla_b => Sys2Proof.Machine.execSlaB s
  | .sla_c => Sys2Proof.Machine.execSlaC s
  | .sla_d => Sys2Proof.Machine.execSlaD s
  | .sla_e => Sys2Proof.Machine.execSlaE s
  | .sla_h => Sys2Proof.Machine.execSlaH s
  | .sla_l => Sys2Proof.Machine.execSlaL s
  | .sla_mhl => Sys2Proof.Machine.execSlaMhl s
  | .sla_a => Sys2Proof.Machine.execSlaA s
  | .sra_b => Sys2Proof.Machine.execSraB s
  | .sra_c => Sys2Proof.Machine.execSraC s
  | .sra_d => Sys2Proof.Machine.execSraD s
  | .sra_e => Sys2Proof.Machine.execSraE s
  | .sra_h => Sys2Proof.Machine.execSraH s
  | .sra_l => Sys2Proof.Machine.execSraL s
  | .sra_mhl => Sys2Proof.Machine.execSraMhl s
  | .sra_a => Sys2Proof.Machine.execSraA s
  | .swap_b => Sys2Proof.Machine.execSwapB s
  | .swap_c => Sys2Proof.Machine.execSwapC s
  | .swap_d => Sys2Proof.Machine.execSwapD s
  | .swap_e => Sys2Proof.Machine.execSwapE s
  | .swap_h => Sys2Proof.Machine.execSwapH s
  | .swap_l => Sys2Proof.Machine.execSwapL s
  | .swap_mhl => Sys2Proof.Machine.execSwapMhl s
  | .swap_a => Sys2Proof.Machine.execSwapA s
  | .srl_b => Sys2Proof.Machine.execSrlB s
  | .srl_c => Sys2Proof.Machine.execSrlC s
  | .srl_d => Sys2Proof.Machine.execSrlD s
  | .srl_e => Sys2Proof.Machine.execSrlE s
  | .srl_h => Sys2Proof.Machine.execSrlH s
  | .srl_l => Sys2Proof.Machine.execSrlL s
  | .srl_mhl => Sys2Proof.Machine.execSrlMhl s
  | .srl_a => Sys2Proof.Machine.execSrlA s
  | .bit_0_b => Sys2Proof.Machine.execBit0B s
  | .bit_0_c => Sys2Proof.Machine.execBit0C s
  | .bit_0_d => Sys2Proof.Machine.execBit0D s
  | .bit_0_e => Sys2Proof.Machine.execBit0E s
  | .bit_0_h => Sys2Proof.Machine.execBit0H s
  | .bit_0_l => Sys2Proof.Machine.execBit0L s
  | .bit_0_mhl => Sys2Proof.Machine.execBit0Mhl s
  | .bit_0_a => Sys2Proof.Machine.execBit0A s
  | .bit_1_b => Sys2Proof.Machine.execBit1B s
  | .bit_1_c => Sys2Proof.Machine.execBit1C s
  | .bit_1_d => Sys2Proof.Machine.execBit1D s
  | .bit_1_e => Sys2Proof.Machine.execBit1E s
  | .bit_1_h => Sys2Proof.Machine.execBit1H s
  | .bit_1_l => Sys2Proof.Machine.execBit1L s
  | .bit_1_mhl => Sys2Proof.Machine.execBit1Mhl s
  | .bit_1_a => Sys2Proof.Machine.execBit1A s
  | .bit_2_b => Sys2Proof.Machine.execBit2B s
  | .bit_2_c => Sys2Proof.Machine.execBit2C s
  | .bit_2_d => Sys2Proof.Machine.execBit2D s
  | .bit_2_e => Sys2Proof.Machine.execBit2E s
  | .bit_2_h => Sys2Proof.Machine.execBit2H s
  | .bit_2_l => Sys2Proof.Machine.execBit2L s
  | .bit_2_mhl => Sys2Proof.Machine.execBit2Mhl s
  | .bit_2_a => Sys2Proof.Machine.execBit2A s
  | .bit_3_b => Sys2Proof.Machine.execBit3B s
  | .bit_3_c => Sys2Proof.Machine.execBit3C s
  | .bit_3_d => Sys2Proof.Machine.execBit3D s
  | .bit_3_e => Sys2Proof.Machine.execBit3E s
  | .bit_3_h => Sys2Proof.Machine.execBit3H s
  | .bit_3_l => Sys2Proof.Machine.execBit3L s
  | .bit_3_mhl => Sys2Proof.Machine.execBit3Mhl s
  | .bit_3_a => Sys2Proof.Machine.execBit3A s
  | .bit_4_b => Sys2Proof.Machine.execBit4B s
  | .bit_4_c => Sys2Proof.Machine.execBit4C s
  | .bit_4_d => Sys2Proof.Machine.execBit4D s
  | .bit_4_e => Sys2Proof.Machine.execBit4E s
  | .bit_4_h => Sys2Proof.Machine.execBit4H s
  | .bit_4_l => Sys2Proof.Machine.execBit4L s
  | .bit_4_mhl => Sys2Proof.Machine.execBit4Mhl s
  | .bit_4_a => Sys2Proof.Machine.execBit4A s
  | .bit_5_b => Sys2Proof.Machine.execBit5B s
  | .bit_5_c => Sys2Proof.Machine.execBit5C s
  | .bit_5_d => Sys2Proof.Machine.execBit5D s
  | .bit_5_e => Sys2Proof.Machine.execBit5E s
  | .bit_5_h => Sys2Proof.Machine.execBit5H s
  | .bit_5_l => Sys2Proof.Machine.execBit5L s
  | .bit_5_mhl => Sys2Proof.Machine.execBit5Mhl s
  | .bit_5_a => Sys2Proof.Machine.execBit5A s
  | .bit_6_b => Sys2Proof.Machine.execBit6B s
  | .bit_6_c => Sys2Proof.Machine.execBit6C s
  | .bit_6_d => Sys2Proof.Machine.execBit6D s
  | .bit_6_e => Sys2Proof.Machine.execBit6E s
  | .bit_6_h => Sys2Proof.Machine.execBit6H s
  | .bit_6_l => Sys2Proof.Machine.execBit6L s
  | .bit_6_mhl => Sys2Proof.Machine.execBit6Mhl s
  | .bit_6_a => Sys2Proof.Machine.execBit6A s
  | .bit_7_b => Sys2Proof.Machine.execBit7B s
  | .bit_7_c => Sys2Proof.Machine.execBit7C s
  | .bit_7_d => Sys2Proof.Machine.execBit7D s
  | .bit_7_e => Sys2Proof.Machine.execBit7E s
  | .bit_7_h => Sys2Proof.Machine.execBit7H s
  | .bit_7_l => Sys2Proof.Machine.execBit7L s
  | .bit_7_mhl => Sys2Proof.Machine.execBit7Mhl s
  | .bit_7_a => Sys2Proof.Machine.execBit7A s
  | .res_0_b => Sys2Proof.Machine.execRes0B s
  | .res_0_c => Sys2Proof.Machine.execRes0C s
  | .res_0_d => Sys2Proof.Machine.execRes0D s
  | .res_0_e => Sys2Proof.Machine.execRes0E s
  | .res_0_h => Sys2Proof.Machine.execRes0H s
  | .res_0_l => Sys2Proof.Machine.execRes0L s
  | .res_0_mhl => Sys2Proof.Machine.execRes0Mhl s
  | .res_0_a => Sys2Proof.Machine.execRes0A s
  | .res_1_b => Sys2Proof.Machine.execRes1B s
  | .res_1_c => Sys2Proof.Machine.execRes1C s
  | .res_1_d => Sys2Proof.Machine.execRes1D s
  | .res_1_e => Sys2Proof.Machine.execRes1E s
  | .res_1_h => Sys2Proof.Machine.execRes1H s
  | .res_1_l => Sys2Proof.Machine.execRes1L s
  | .res_1_mhl => Sys2Proof.Machine.execRes1Mhl s
  | .res_1_a => Sys2Proof.Machine.execRes1A s
  | .res_2_b => Sys2Proof.Machine.execRes2B s
  | .res_2_c => Sys2Proof.Machine.execRes2C s
  | .res_2_d => Sys2Proof.Machine.execRes2D s
  | .res_2_e => Sys2Proof.Machine.execRes2E s
  | .res_2_h => Sys2Proof.Machine.execRes2H s
  | .res_2_l => Sys2Proof.Machine.execRes2L s
  | .res_2_mhl => Sys2Proof.Machine.execRes2Mhl s
  | .res_2_a => Sys2Proof.Machine.execRes2A s
  | .res_3_b => Sys2Proof.Machine.execRes3B s
  | .res_3_c => Sys2Proof.Machine.execRes3C s
  | .res_3_d => Sys2Proof.Machine.execRes3D s
  | .res_3_e => Sys2Proof.Machine.execRes3E s
  | .res_3_h => Sys2Proof.Machine.execRes3H s
  | .res_3_l => Sys2Proof.Machine.execRes3L s
  | .res_3_mhl => Sys2Proof.Machine.execRes3Mhl s
  | .res_3_a => Sys2Proof.Machine.execRes3A s
  | .res_4_b => Sys2Proof.Machine.execRes4B s
  | .res_4_c => Sys2Proof.Machine.execRes4C s
  | .res_4_d => Sys2Proof.Machine.execRes4D s
  | .res_4_e => Sys2Proof.Machine.execRes4E s
  | .res_4_h => Sys2Proof.Machine.execRes4H s
  | .res_4_l => Sys2Proof.Machine.execRes4L s
  | .res_4_mhl => Sys2Proof.Machine.execRes4Mhl s
  | .res_4_a => Sys2Proof.Machine.execRes4A s
  | .res_5_b => Sys2Proof.Machine.execRes5B s
  | .res_5_c => Sys2Proof.Machine.execRes5C s
  | .res_5_d => Sys2Proof.Machine.execRes5D s
  | .res_5_e => Sys2Proof.Machine.execRes5E s
  | .res_5_h => Sys2Proof.Machine.execRes5H s
  | .res_5_l => Sys2Proof.Machine.execRes5L s
  | .res_5_mhl => Sys2Proof.Machine.execRes5Mhl s
  | .res_5_a => Sys2Proof.Machine.execRes5A s
  | .res_6_b => Sys2Proof.Machine.execRes6B s
  | .res_6_c => Sys2Proof.Machine.execRes6C s
  | .res_6_d => Sys2Proof.Machine.execRes6D s
  | .res_6_e => Sys2Proof.Machine.execRes6E s
  | .res_6_h => Sys2Proof.Machine.execRes6H s
  | .res_6_l => Sys2Proof.Machine.execRes6L s
  | .res_6_mhl => Sys2Proof.Machine.execRes6Mhl s
  | .res_6_a => Sys2Proof.Machine.execRes6A s
  | .res_7_b => Sys2Proof.Machine.execRes7B s
  | .res_7_c => Sys2Proof.Machine.execRes7C s
  | .res_7_d => Sys2Proof.Machine.execRes7D s
  | .res_7_e => Sys2Proof.Machine.execRes7E s
  | .res_7_h => Sys2Proof.Machine.execRes7H s
  | .res_7_l => Sys2Proof.Machine.execRes7L s
  | .res_7_mhl => Sys2Proof.Machine.execRes7Mhl s
  | .res_7_a => Sys2Proof.Machine.execRes7A s
  | .set_0_b => Sys2Proof.Machine.execSet0B s
  | .set_0_c => Sys2Proof.Machine.execSet0C s
  | .set_0_d => Sys2Proof.Machine.execSet0D s
  | .set_0_e => Sys2Proof.Machine.execSet0E s
  | .set_0_h => Sys2Proof.Machine.execSet0H s
  | .set_0_l => Sys2Proof.Machine.execSet0L s
  | .set_0_mhl => Sys2Proof.Machine.execSet0Mhl s
  | .set_0_a => Sys2Proof.Machine.execSet0A s
  | .set_1_b => Sys2Proof.Machine.execSet1B s
  | .set_1_c => Sys2Proof.Machine.execSet1C s
  | .set_1_d => Sys2Proof.Machine.execSet1D s
  | .set_1_e => Sys2Proof.Machine.execSet1E s
  | .set_1_h => Sys2Proof.Machine.execSet1H s
  | .set_1_l => Sys2Proof.Machine.execSet1L s
  | .set_1_mhl => Sys2Proof.Machine.execSet1Mhl s
  | .set_1_a => Sys2Proof.Machine.execSet1A s
  | .set_2_b => Sys2Proof.Machine.execSet2B s
  | .set_2_c => Sys2Proof.Machine.execSet2C s
  | .set_2_d => Sys2Proof.Machine.execSet2D s
  | .set_2_e => Sys2Proof.Machine.execSet2E s
  | .set_2_h => Sys2Proof.Machine.execSet2H s
  | .set_2_l => Sys2Proof.Machine.execSet2L s
  | .set_2_mhl => Sys2Proof.Machine.execSet2Mhl s
  | .set_2_a => Sys2Proof.Machine.execSet2A s
  | .set_3_b => Sys2Proof.Machine.execSet3B s
  | .set_3_c => Sys2Proof.Machine.execSet3C s
  | .set_3_d => Sys2Proof.Machine.execSet3D s
  | .set_3_e => Sys2Proof.Machine.execSet3E s
  | .set_3_h => Sys2Proof.Machine.execSet3H s
  | .set_3_l => Sys2Proof.Machine.execSet3L s
  | .set_3_mhl => Sys2Proof.Machine.execSet3Mhl s
  | .set_3_a => Sys2Proof.Machine.execSet3A s
  | .set_4_b => Sys2Proof.Machine.execSet4B s
  | .set_4_c => Sys2Proof.Machine.execSet4C s
  | .set_4_d => Sys2Proof.Machine.execSet4D s
  | .set_4_e => Sys2Proof.Machine.execSet4E s
  | .set_4_h => Sys2Proof.Machine.execSet4H s
  | .set_4_l => Sys2Proof.Machine.execSet4L s
  | .set_4_mhl => Sys2Proof.Machine.execSet4Mhl s
  | .set_4_a => Sys2Proof.Machine.execSet4A s
  | .set_5_b => Sys2Proof.Machine.execSet5B s
  | .set_5_c => Sys2Proof.Machine.execSet5C s
  | .set_5_d => Sys2Proof.Machine.execSet5D s
  | .set_5_e => Sys2Proof.Machine.execSet5E s
  | .set_5_h => Sys2Proof.Machine.execSet5H s
  | .set_5_l => Sys2Proof.Machine.execSet5L s
  | .set_5_mhl => Sys2Proof.Machine.execSet5Mhl s
  | .set_5_a => Sys2Proof.Machine.execSet5A s
  | .set_6_b => Sys2Proof.Machine.execSet6B s
  | .set_6_c => Sys2Proof.Machine.execSet6C s
  | .set_6_d => Sys2Proof.Machine.execSet6D s
  | .set_6_e => Sys2Proof.Machine.execSet6E s
  | .set_6_h => Sys2Proof.Machine.execSet6H s
  | .set_6_l => Sys2Proof.Machine.execSet6L s
  | .set_6_mhl => Sys2Proof.Machine.execSet6Mhl s
  | .set_6_a => Sys2Proof.Machine.execSet6A s
  | .set_7_b => Sys2Proof.Machine.execSet7B s
  | .set_7_c => Sys2Proof.Machine.execSet7C s
  | .set_7_d => Sys2Proof.Machine.execSet7D s
  | .set_7_e => Sys2Proof.Machine.execSet7E s
  | .set_7_h => Sys2Proof.Machine.execSet7H s
  | .set_7_l => Sys2Proof.Machine.execSet7L s
  | .set_7_mhl => Sys2Proof.Machine.execSet7Mhl s
  | .set_7_a => Sys2Proof.Machine.execSet7A s
  | .illegal op => Sys2Proof.Machine.execIllegal op s

end Sys2Proof.Machine
end

