-- ==== Sys2Proof/Machine/Fetch.lean ====
section
/-! DEFINITION. The instruction fetch and the parts of a step around `exec` (40_engine.md R90-R98). -/

namespace Sys2Proof.Machine

/-- `FetchByte()` (R91): the byte at `pc`, then `pc` advances and wraps. If the read raises, `pc` is not
advanced. -/
def fetchByte (s : State) : Exec (Byte × State) := do
  let v ← load s s.pc
  return (v, { s with pc := s.pc + 1 })

/-- `FetchWord()` (R92): low byte first. -/
def fetchWord (s : State) : Exec (Word × State) := do
  let lo ← fetchByte s
  let hi ← fetchByte lo.2
  return (wordOf hi.1 lo.1, hi.2)

/-- The 30 control-flow opcodes that have no handler under `HANDLED_SET = doc_minimum` (R95). -/
def controlFlowOpcodes : List Byte :=
  [0x18#8, 0x20#8, 0x28#8, 0x30#8, 0x38#8, 0xC3#8, 0xC2#8, 0xCA#8, 0xD2#8, 0xDA#8, 0xE9#8, 0xCD#8,
    0xC4#8, 0xCC#8, 0xD4#8, 0xDC#8, 0xC9#8, 0xC0#8, 0xC8#8, 0xD0#8, 0xD8#8, 0xD9#8, 0xC7#8, 0xCF#8,
    0xD7#8, 0xDF#8, 0xE7#8, 0xEF#8, 0xF7#8, 0xFF#8]

/-- The opcode byte has a handler (R95); an illegal byte is handled by raising `InvalidOpcode` (R94). -/
def handled (hs : HandledSet) (op : Byte) : Bool :=
  match hs with
  | .full => true
  | .docMinimum => !controlFlowOpcodes.contains op

/-- The fetch of one instruction with all its bytes (R90, R93), `pc` past them. The order of the fatal
conditions is R302's: the opcode fetch, the second byte of a prefixed instruction, the dispatch
check, the immediate fetches. An illegal byte is dispatched to its handler, `execIllegal`. -/
def fetchInstr (s : State) : Exec (Instr × State) := do
  let op ← fetchByte s
  if handled s.cfg.handledSet op.1 then
    match opcodeEntry op.1 with
    | .op i => return (i, op.2)
    | .imm8 f =>
      let n ← fetchByte op.2
      return (f n.1, n.2)
    | .imm16 f =>
      let v ← fetchWord op.2
      return (f v.1, v.2)
    | .cb =>
      let op2 ← fetchByte op.2
      return (prefixedRow op2.1, op2.2)
    | .illegal => return (.illegal op.1, op.2)
  else throw (.unimplementedOpcode op.1, op.2)

/-- The end of a step that executed an instruction (R98): `p` is `ime_pending` at its start. -/
def promoteIme (p : Bool) (s : State) : State :=
  if p && s.imePending then { s with ime := true, imePending := false } else s

/-- The promotion happens only when the instruction completed: a faulted step does not promote. -/
def endStep (p : Bool) : Out → Out
  | .next s => .next (promoteIme p s)
  | .fault r => .fault r
  | .refused r => .refused r

/-- The address withFetchWord stores at: `pc`, or the reset entry point 0x0000 when one of the three
bytes from `pc` on is not plain storage (ROM array, WRAM, echo or I/O) and so cannot hold an instruction's
bytes. -/
def plainStorage (a : Word) : Bool :=
  match region a with
  | .rom | .wram | .echo | .io => true
  | .vram | .cartRam | .oam | .unusable | .hram | .ie => false

def fetchBase (s : State) : Word :=
  if plainStorage s.pc && plainStorage (s.pc + 1) && plainStorage (s.pc + 2) then s.pc else 0#16

/-- Storing bytes at consecutive addresses that are plain storage. -/
def placeBytes (b : Bus) (a : Word) : List Byte → Bus
  | [] => b
  | v :: vs => placeBytes { b with mem := b.mem.write (location a) v } (a + 1) vs

end Sys2Proof.Machine
end

