-- ==== Sys2Proof/Machine/Step.lean ====
section
/-! DEFINITION. One step of the engine (40_engine.md R90). -/

namespace Sys2Proof.Machine

/-- `step()` (R90): none from `Faulted` (R97), idle while halted (R96), else one instruction. -/
def step (s : State) : Host.Outcome State Fault Refusal :=
  if s.faulted then .fault .noStepFromFaulted
  else if s.halted then .next s
  else
    match fetchInstr s with
    | .ok r => endStep s.imePending (exec r.1 r.2)
    | .error e => raiseFatal e.1 e.2

/-- The state with an instruction of the opcode table stored where the next step fetches it, and the
engine running, so that the step does fetch. It stands for the image load a host makes before the
first step (20_memory.md R54; assumption log 5). -/
def State.withFetchWord (s : State) (nbits w : Nat) : State :=
  let base := fetchBase s
  { s with
    pc := base
    halted := false
    faulted := false
    bus := placeBytes s.bus base (tableBytes nbits w) }

end Sys2Proof.Machine
end

