-- ==== Sys2Proof/Machine/Collaborator.lean ====
section
/-! DEFINITION. The collaborator-facing surface beside `step` (40_engine.md R101; 20_memory.md R54, R64;
60_exceptions.md R306, R313): what a caller may do to the block between two steps. The register and
flag accessors of R101 are `getR8`, `setR8`, `getR16`, `setR16`, `flag` and `setFlag` of
Machine/Ops.lean. No accessor reaches `ime_pending` or the status (R101). -/

namespace Sys2Proof.Machine

/-- `set_halted(b)` (R101): how a collaborator wakes the block (R312). -/
def State.setHalted (s : State) (b : Bool) : State := { s with halted := b }

/-- `set_ime(b)` (R101). -/
def State.setIme (s : State) (b : Bool) : State := { s with ime := b }

/-- `read_byte(addr)` (R64): as R41; an error is returned to the collaborator. -/
def State.readByte (s : State) (a : Word) : Except Fatal Byte := s.bus.read a

/-- `write_byte(addr, v)` (R64): as R42; on an error the block stays as it was and does not fault (R63). -/
def State.writeByte (s : State) (a : Word) (v : Byte) : Exec State := store s a v

/-- `read_word(addr)` (R52, R64). -/
def State.readWord (s : State) (a : Word) : Exec Word := loadWord s a

/-- `write_word(addr, v)` (R53, R64): an error carries the block with the first byte already written
when the second write is the one refused (assumption log 9). -/
def State.writeWord (s : State) (a : Word) (v : Word) : Exec State := storeWord s a v

/-- `load(image)` from index `i` on (R54): each byte through the MBC's write path at the CPU address
`i`. An error stops the load and carries the block with the bytes before it written. -/
def loadImageFrom (s : State) (i : Nat) : List Byte → Exec State
  | [] => .ok s
  | v :: vs =>
    match mbcWriteByte s.bus.mbc s.bus.mem (BitVec.ofNat 16 i) v with
    | some m => loadImageFrom { s with bus := { s.bus with mem := m } } (i + 1) vs
    | none => .error (.romAccessOutOfRange .write (BitVec.ofNat 16 i), s)

/-- `load(image)` (R54): the image is copied from address 0 on. After an error the block must not be
stepped (D18): a launch goes on from `.ok` only. -/
def State.loadImage (s : State) (image : List Byte) : Exec State := loadImageFrom s 0 image

/-- What a collaborator that delivers interrupt `k` as silicon does would do between two steps (R306,
informative: "It is not part of this block"), composed of the accessors above: it shows that the
surface represents the transition. The clearing of the IF bit is the collaborator's own further act. -/
def State.deliverInterrupt (s : State) (k : Fin 5) : Exec State := do
  let s := (s.setHalted false).setIme false
  let pc := s.getR16 .pc
  let sp := s.getR16 .sp - 1
  let s ← s.writeByte sp (hiByte pc)
  let s ← s.writeByte (sp - 1) (loByte pc)
  return (s.setR16 .sp (sp - 1)).setR16 .pc (BitVec.ofNat 16 (0x40 + 8 * k.val))

end Sys2Proof.Machine
end

