-- ==== Sys2Proof/Machine/Cycles.lean ====
section
/-! DEFINITION. The cycle count a step returns, in T-states (40_engine.md R99, R100; 70_reset_and_hazards.md
R324). The count is an output of the step and no state records it (R34), so it is a function beside
`step` and not a field of State (assumption log 3). -/

namespace Sys2Proof.Machine

/-- Register operand or not: the count of a form that is slower on `(HL)`. -/
def opndCycles (o : Opnd) (onReg onMem : Nat) : Nat :=
  match o with
  | .reg _ => onReg
  | .mhl => onMem

/-- The count of a conditional form (R99): taken when `cond(cc)` holds on F. -/
def condCycles (f : Byte) (cc : Cond) (taken notTaken : Nat) : Nat :=
  if condHolds f cc then taken else notTaken

/-- The count of an instruction that executes with F = `f` (R99, R324); none for an illegal byte. -/
def formCycles (f : Byte) : Form → Option Nat
  | .ldRR _ _ => some 4
  | .ldRImm _ _ => some 8
  | .ldRHL _ => some 8
  | .ldHLR _ => some 8
  | .ldHLImm _ => some 12
  | .ldAInd _ => some 8
  | .ldIndA _ => some 8
  | .ldAbsA _ => some 16
  | .ldAAbs _ => some 16
  | .ldhA _ => some 12
  | .ldhLoad _ => some 12
  | .ldCA => some 8
  | .ldAC => some 8
  | .ldRRImm _ _ => some 12
  | .ldAbsSP _ => some 20
  | .ldSPHL => some 8
  | .ldHLSP _ => some 12
  | .push _ => some 16
  | .pop _ => some 12
  | .alu _ (.reg _) => some 4
  | .alu _ .mhl => some 8
  | .alu _ (.imm _) => some 8
  | .inc8 o => some (opndCycles o 4 12)
  | .dec8 o => some (opndCycles o 4 12)
  | .addHL _ => some 8
  | .inc16 _ => some 8
  | .dec16 _ => some 8
  | .addSP _ => some 16
  | .rlca => some 4
  | .rrca => some 4
  | .rla => some 4
  | .rra => some 4
  | .daa => some 4
  | .cpl => some 4
  | .scf => some 4
  | .ccf => some 4
  | .rot _ o => some (opndCycles o 8 16)
  | .bit _ o => some (opndCycles o 8 12)
  | .res _ o => some (opndCycles o 8 16)
  | .set _ o => some (opndCycles o 8 16)
  | .nop => some 4
  | .halt => some 4
  | .stop _ => some 4
  | .di => some 4
  | .ei => some 4
  | .jr _ => some 12
  | .jrcc cc _ => some (condCycles f cc 12 8)
  | .jp _ => some 16
  | .jpcc cc _ => some (condCycles f cc 16 12)
  | .jphl => some 4
  | .call _ => some 24
  | .callcc cc _ => some (condCycles f cc 24 12)
  | .ret => some 16
  | .retcc cc => some (condCycles f cc 20 8)
  | .reti => some 16
  | .rst _ => some 16
  | .illegal _ => none

/-- What `step()` returns to its caller (R100). -/
inductive StepReturn where
  /-- `Ok(cycles)` -/
  | ok (cycles : Nat)
  /-- `Err(Fatal(kind, info))` -/
  | err (k : Fatal)
  /-- From `Faulted` there is no step to return from (R97). -/
  | noStep
deriving DecidableEq, Repr

/-- The value the step from `s` returns: the row's count when the instruction completes, 4 for an idle
step (R96), the fatal condition when one is raised, and no count then (R99, D29). -/
def stepReturn (s : State) : StepReturn :=
  if s.faulted then .noStep
  else if s.halted then .ok 4
  else
    match fetchInstr s with
    | .error e => .err e.1
    | .ok r =>
      match exec r.1 r.2, formCycles r.2.f r.1.form with
      | .next _, some n => .ok n
      | .fault (.fatal k _), _ => .err k
      | _, _ => .noStep

end Sys2Proof.Machine
end

