-- ==== Sys2Proof/Machine/Run.lean ====
section
/-! DEFINITION. Runs of the block (40_engine.md R102): construction, a successful image load, then steps and
collaborator operations in the order the caller chooses, up to the end the caller states. -/

namespace Sys2Proof.Machine

/-- One call of the collaborator-facing surface beside `step` (R101; bus accesses as 20_memory.md R64). -/
inductive HostOp where
  | getR8 (r : R8)
  | setR8 (r : R8) (v : Byte)
  | getR16 (rr : R16)
  | setR16 (rr : R16) (v : Word)
  | flagValue (k : Flag)
  | setFlag (k : Flag) (b : Bool)
  | getHalted
  | setHalted (b : Bool)
  | getIme
  | setIme (b : Bool)
  | readByte (a : Word)
  | writeByte (a : Word) (v : Byte)
  | readWord (a : Word)
  | writeWord (a : Word) (v : Word)
deriving DecidableEq, Repr

/-- What such a call gives back to the collaborator (60_exceptions.md R313). -/
inductive HostReply where
  | done
  | byte (v : Byte)
  | word (v : Word)
  | bool (b : Bool)
  /-- A bus error, returned and not fatal (20_memory.md R63). -/
  | error (k : Fatal)
deriving DecidableEq, Repr

/-- A collaborator's write: on an error the block is as the write left it (assumption log 9). -/
def replyToWrite : Exec State → HostReply × State
  | .ok s => (.done, s)
  | .error e => (.error e.1, e.2)

/-- A call's reply and the block after it (R101). -/
def HostOp.perform (op : HostOp) (s : State) : HostReply × State :=
  match op with
  | .getR8 r => (.byte (s.getR8 r), s)
  | .setR8 r v => (.done, s.setR8 r v)
  | .getR16 rr => (.word (s.getR16 rr), s)
  | .setR16 rr v => (.done, s.setR16 rr v)
  | .flagValue k => (.bool (s.flag k), s)
  | .setFlag k b => (.done, s.setFlag k b)
  | .getHalted => (.bool s.halted, s)
  | .setHalted b => (.done, s.setHalted b)
  | .getIme => (.bool s.ime, s)
  | .setIme b => (.done, s.setIme b)
  | .readByte a =>
    match s.readByte a with
    | .ok v => (.byte v, s)
    | .error k => (.error k, s)
  | .writeByte a v => replyToWrite (s.writeByte a v)
  | .readWord a =>
    match s.readWord a with
    | .ok v => (.word v, s)
    | .error e => (.error e.1, s)
  | .writeWord a v => replyToWrite (s.writeWord a v)

/-- What the caller does next in a run (R102). A caller that decides by the replies it gets back makes,
in any one run, one list of these. -/
inductive RunAct where
  | step
  | host (op : HostOp)
deriving DecidableEq, Repr

/-- The beginning of a run: construction and the image load. A failed load refuses the launch with its
error (R102; D18). -/
def launch (cfg : Config) (mbc : MbcVariant) (init : InitMem) (image : List Byte) :
    Except Fatal State :=
  match (State.construct cfg mbc init).loadImage image with
  | .ok s => .ok s
  | .error e => .error e.1

/-- All of a list of acts: a run that reaches `Faulted` ends there (R102). -/
def runActs : List RunAct → State → Out
  | [], s => .next s
  | .host op :: acts, s => runActs acts (op.perform s).2
  | .step :: acts, s =>
    match step s with
    | .next t => runActs acts t
    | .fault r => .fault r
    | .refused r => .refused r

/-- The end of a run, as the caller states it (R102, D32). -/
inductive EndCondition where
  /-- After this many steps; an idle step counts (R96). -/
  | afterSteps (n : Nat)
  /-- At the first step whose fetch address is this one. -/
  | atFetch (a : Word)
deriving DecidableEq, Repr

/-- The address the next step fetches its opcode at; an idle step fetches nothing (R96), and from
`Faulted` there is no step (R97). -/
def State.fetchAddress (s : State) : Option Word :=
  if s.faulted || s.halted then none else some s.pc

/-- The end condition is met at `s`, `next` being what the caller does next: a fetch address is reached
when the caller takes the step that would fetch there (assumption log 13). -/
def EndCondition.metAt (e : EndCondition) (s : State) (next : Option RunAct) : Bool :=
  match e with
  | .afterSteps n => n == 0
  | .atFetch a => next == some .step && s.fetchAddress == some a

/-- What remains of the end condition after a completed step. -/
def EndCondition.afterStep : EndCondition → EndCondition
  | .afterSteps n => .afterSteps (n - 1)
  | .atFetch a => .atFetch a

/-- How a run ends (R102). -/
inductive RunEnd where
  /-- The end condition is met, at this state. -/
  | met (s : State)
  /-- The caller stopped before that, at this state. -/
  | notMet (s : State)
  /-- A step raised a fatal condition: the run ends and meets no end condition (R97). -/
  | faulted (r : Fault)
  /-- A step was refused; no step of this model is. -/
  | refused (r : Refusal)
deriving DecidableEq, Repr

/-- The run of the acts from `s`, up to its end condition (R102). -/
def runTo : List RunAct → EndCondition → State → RunEnd
  | [], e, s => if e.metAt s none then .met s else .notMet s
  | act :: acts, e, s =>
    if e.metAt s (some act) then .met s
    else
      match act with
      | .host op => runTo acts e (op.perform s).2
      | .step =>
        match step s with
        | .next t => runTo acts e.afterStep t
        | .fault r => .faulted r
        | .refused r => .refused r

/-- A whole run (R102): a launch that is refused is no run. -/
def run (cfg : Config) (mbc : MbcVariant) (init : InitMem) (image : List Byte)
    (acts : List RunAct) (e : EndCondition) : Except Fatal RunEnd :=
  match launch cfg mbc init image with
  | .ok s => .ok (runTo acts e s)
  | .error k => .error k

end Sys2Proof.Machine
end

