-- ==== Sys2Proof/Safety.lean ====
section
/-! DEFINITION. What claims call a good state and a safe run. -/

namespace Sys2Proof.Machine

/-- The locations that have storage behind the bus (10_state.md R32: "No other storage exists"): the
`MbcNone` array, WRAM and the I/O store. -/
def hasCell (n : Nat) : Bool := n ≤ 0x7FFF || (0xC000 ≤ n && n ≤ 0xDFFF) || (0xFF00 ≤ n && n ≤ 0xFF7F)

/-- The invariant every step keeps: F's low nibble is zero (R21), the memory is in canonical form and
holds cells only where the block has storage (R32), and a faulted engine is not halted (R30). -/
structure State.Inv (s : State) : Prop where
  flagsLow : s.f &&& 0x0F#8 = 0#8
  memWf : s.bus.mem.wf
  memBacked : ∀ c ∈ s.bus.mem, hasCell c.1 = true
  status : ¬(s.faulted = true ∧ s.halted = true)

/-- An access to the address completes, under `MbcNone`: it is in no unimplemented region (R45) and not in
cartridge RAM (R44). -/
def accessible (a : Word) : Bool :=
  match region a with
  | .rom | .wram | .echo | .unusable | .io | .ie => true
  | .vram | .cartRam | .oam | .hram => false

/-- What a read of `a` gives after a completed write of `v` to it: the unusable region discards the
write (R49), IE keeps bit 0 (R48), and every other accessible address is plain storage. -/
def storedByte (a : Word) (v : Byte) : Byte :=
  match region a with
  | .unusable => 0x00#8
  | .ie => ieByte (v.getLsbD 0)
  | _ => v

/-- A step that goes on. -/
def Steps (s t : State) : Prop := step s = .next t

/-- A run of `n` steps alone, with no fatal condition (a run that reaches `Faulted` ends there, R102). -/
def SafeRun (n : Nat) (s : State) : Prop := ∃ t, Sys2Proof.core.run n s = .next t

/-- A run that a claim can be about (R102): its launch succeeds, no step of it is fatal, and its end
condition is met, at `t`. -/
def RunMeets (cfg : Config) (mbc : MbcVariant) (init : InitMem) (image : List Byte)
    (acts : List RunAct) (e : EndCondition) (t : State) : Prop :=
  run cfg mbc init image acts e = .ok (.met t)

end Sys2Proof.Machine
end

