-- ==== Sys2Proof/Certificates/Slice0/Obligations.lean ====
section
/-! DEFINITION. The statements for the provers, and the words they are written in (`Sys2Proof.Claims`).
A statement about instructions names them by their form (`Instr.form`, Decode.lean): "for every
instruction whose form is `ldRR d r`" is every row LD r,r' of the opcode table, and for the prefixed
rows the constructor `prefix_cb` with the same second byte as well. `exec` runs on the state after
the fetch, so its `pc` is the address past the instruction (10_state.md R26). -/

namespace Sys2Proof.Claims

open Sys2Proof.Machine

/-- What a step leaves alone: every register operand outside `dest`, every byte of the address space
outside the locations of `stored`, the engine flags and the configuration. -/
def Frame (s t : State) (dest : List Reg) (stored : List Word) : Prop :=
  (∀ r : Reg, r ∉ dest → t.reg r = s.reg r) ∧
  (∀ x : Word, (∀ w ∈ stored, location x ≠ location w) → t.bus.read x = s.bus.read x) ∧
  t.halted = s.halted ∧ t.ime = s.ime ∧ t.imePending = s.imePending ∧ t.faulted = s.faulted ∧
  t.cfg = s.cfg

/-- `Frame`, and SP and PC unchanged: the instruction may write F. -/
def KeepsButF (s t : State) (dest : List Reg) (stored : List Word) : Prop :=
  Frame s t dest stored ∧ t.sp = s.sp ∧ t.pc = s.pc

/-- `Frame`, and SP, PC and all of F unchanged. -/
def Keeps (s t : State) (dest : List Reg) (stored : List Word) : Prop :=
  KeepsButF s t dest stored ∧ t.f = s.f

/-- The four flags after a step, with the other bits of F unchanged. -/
def FlagsAre (s t : State) (z n h c : Bool) : Prop :=
  t.flag .z = z ∧ t.flag .n = n ∧ t.flag .h = h ∧ t.flag .c = c ∧
  t.f &&& 0x0F#8 = s.f &&& 0x0F#8

/-- The "Encoding" line of an instruction rule: its bytes in fetch order, and the T-states of a step
that executes it with the state's F. -/
def Row (i : Instr) (s : State) (bytes : List Byte) (cycles : Nat) : Prop :=
  encode i = bytes ∧ formCycles s.f i.form = some cycles

/-- The instruction raises `k` with the state as it was when it began. -/
def FaultsAt (i : Instr) (s : State) (k : Fatal) : Prop :=
  exec i s = .fault (.fatal k { s with faulted := true })

/-- The instruction reads the byte at `a`: it completes as `P` says when the read completes, and raises
the read's fatal condition, with nothing done, when it does not. -/
def LoadsFrom (i : Instr) (s : State) (a : Word) (P : Byte → State → Prop) : Prop :=
  (∀ v, s.bus.read a = .ok v → ∃ t, exec i s = .next t ∧ P v t) ∧
  (∀ k, s.bus.read a = .error k → FaultsAt i s k)

/-- The instruction writes the byte `v` at `a`: it completes as `P` says when the address is accessible,
and raises the write's fatal condition, with nothing done, when the write is refused. -/
def StoresTo (i : Instr) (s : State) (a : Word) (v : Byte) (P : State → Prop) : Prop :=
  (accessible a = true →
    ∃ t, exec i s = .next t ∧ t.bus.read a = .ok (storedByte a v) ∧ P t) ∧
  (∀ k, s.bus.write a v = .error k → FaultsAt i s k)

/-- The value of an accumulator operation's second operand. -/
def SrcIs (s : State) (y : Src) (v : Byte) : Prop :=
  match y with
  | .reg r => v = s.reg r
  | .mhl => s.bus.read s.hl = .ok v
  | .imm n => v = n

/-- The bytes of the accumulator operation with code `o` (44_alu8.md, encoding patterns). -/
def aluBytes (o : Nat) : Src → List Byte
  | .reg r => [opXYZ 2 o r.code]
  | .mhl => [opXYZ 2 o 6]
  | .imm n => [opXYZ 3 o 6, n]

/-- 4 T-states on a register, 8 on `(HL)` or `d8`. -/
def aluCycles : Src → Nat
  | .reg _ => 4
  | .mhl => 8
  | .imm _ => 8

/-- A refused read of an `(HL)` operand is fatal and leaves F and A as they were. -/
def SrcFaults (i : Instr) (s : State) (y : Src) : Prop :=
  ∀ k, y = .mhl → s.bus.read s.hl = .error k → FaultsAt i s k

/-- The value of an operand `r8[z]`. -/
def OpndIs (s : State) (o : Opnd) (v : Byte) : Prop :=
  match o with
  | .reg r => v = s.reg r
  | .mhl => s.bus.read s.hl = .ok v

/-- A refused read of an `(HL)` operand is fatal. -/
def OpndFaults (i : Instr) (s : State) (o : Opnd) : Prop :=
  ∀ k, o = .mhl → s.bus.read s.hl = .error k → FaultsAt i s k

/-- `n` is written back to the operand, and nothing but that operand (and F) changes. -/
def WritesBack (s t : State) (o : Opnd) (n : Byte) : Prop :=
  match o with
  | .reg r => t.reg r = n ∧ KeepsButF s t [r] []
  | .mhl => t.bus.read s.hl = .ok (storedByte s.hl n) ∧ KeepsButF s t [] [s.hl]

/-- The count on a register and on `(HL)`. -/
def byOpnd (o : Opnd) (onReg onMem : Nat) : Nat :=
  match o with
  | .reg _ => onReg
  | .mhl => onMem

/-- The rotates and shifts on numbers (41_alu.md R121-R128 with 00_scope.md R8): the result of `v` with
carry-in `c`, and the bit shifted out. -/
def rotSpec (op : RotOp) (c : Bool) (v : Byte) : Nat × Bool :=
  let n := v.toNat
  match op with
  | .rlc => (n * 2 % 256 + n / 128, n / 128 == 1)
  | .rrc => (n / 2 + n % 2 * 128, n % 2 == 1)
  | .rl => (n * 2 % 256 + c.toNat, n / 128 == 1)
  | .rr => (n / 2 + c.toNat * 128, n % 2 == 1)
  | .sla => (n * 2 % 256, n / 128 == 1)
  | .sra => (n / 2 + n / 128 * 128, n % 2 == 1)
  | .swap => (n % 16 * 16 + n / 16, false)
  | .srl => (n / 2, n % 2 == 1)

/-- `cond(cc)` on the flags of F (30_encoding.md R73). -/
def CondHolds (s : State) : Cond → Prop
  | .nz => s.flag .z = false
  | .z => s.flag .z = true
  | .nc => s.flag .c = false
  | .c => s.flag .c = true

/-- A conditional instruction's T-states. -/
def CondRow (i : Instr) (s : State) (cc : Cond) (bytes : List Byte) (taken notTaken : Nat) : Prop :=
  encode i = bytes ∧ (CondHolds s cc → formCycles s.f i.form = some taken) ∧
  (¬CondHolds s cc → formCycles s.f i.form = some notTaken)

/-- A pushed word lies little-endian at the new SP (43_loads16_stack.md R176). -/
def Pushed (s t : State) (v : Word) : Prop :=
  t.sp = s.sp - 2 ∧ t.bus.read (s.sp - 1) = .ok (storedByte (s.sp - 1) (hiByte v)) ∧
  t.bus.read (s.sp - 2) = .ok (storedByte (s.sp - 2) (loByte v)) ∧
  Frame s t [] [s.sp - 1, s.sp - 2] ∧ t.f = s.f

/-- Where a push of `v` by `i` raises: at the first write SP is one lower, at the second it is two lower
and the high byte is written (R176). -/
def PushFaults (i : Instr) (s : State) (v : Word) : Prop :=
  (∀ k, s.bus.write (s.sp - 1) (hiByte v) = .error k →
    exec i s = .fault (.fatal k { s with sp := s.sp - 1, faulted := true })) ∧
  (∀ k b, s.bus.write (s.sp - 1) (hiByte v) = .ok b →
    b.write (s.sp - 2) (loByte v) = .error k →
    exec i s = .fault (.fatal k { s with sp := s.sp - 2, bus := b, faulted := true }))

/-- Where a pop by `i` raises (R177). -/
def PopFaults (i : Instr) (s : State) : Prop :=
  (∀ k, s.bus.read s.sp = .error k → FaultsAt i s k) ∧
  (∀ k lo, s.bus.read s.sp = .ok lo → s.bus.read (s.sp + 1) = .error k →
    exec i s = .fault (.fatal k { s with sp := s.sp + 1, faulted := true }))

/-- The bytes at consecutive addresses, each readable. -/
def BytesAt (b : Bus) : Word → List Byte → Prop
  | _, [] => True
  | a, v :: vs => b.read a = .ok v ∧ BytesAt b (a + 1) vs

/-- The control-flow forms: jumps, calls, returns, restarts. -/
def isControlFlow : Form → Bool
  | .jr _ | .jrcc _ _ | .jp _ | .jpcc _ _ | .jphl | .call _ | .callcc _ _ | .ret | .retcc _ | .reti
  | .rst _ => true
  | _ => false

/-- The engine runs: neither `Faulted` nor halted. -/
def Running (s : State) : Prop := s.faulted = false ∧ s.halted = false

/-- A two-digit decimal number in BCD. -/
def bcd (n : Nat) : Byte := BitVec.ofNat 8 (n / 10 * 16 + n % 10)

/-- The address is plain storage: a read gives back what was written. -/
def Plain (a : Word) : Prop :=
  a.toNat ≤ 0x7FFF ∨ (0xC000 ≤ a.toNat ∧ a.toNat ≤ 0xFDFF) ∨ (0xFF00 ≤ a.toNat ∧ a.toNat ≤ 0xFF7F)

end Sys2Proof.Claims

open Sys2Proof Sys2Proof.Machine Sys2Proof.Claims

/-! ### Encoding -/

/-- Decoding an encoded well-formed instruction gives it back, with every operand value, and leaves the
bytes after it (30_encoding.md R70-R76).
That an illegal byte is decoded to a row of its own, one byte long, is assumption log 11 (the model's
choice), and that the prefix's constructor is never decoded log 6. -/
def Obligations.DecodeAfterEncode : Prop :=
  ∀ (i : Instr) (rest : List Byte), i.wellFormed = true → decode (encode i ++ rest) = .ok (i, rest)

/-- Every byte sequence has one meaning: what decodes is well formed, and encodes to the same bytes.
The illegal row's one byte is assumption log 11 (the model's choice). -/
def Obligations.EncodeAfterDecode : Prop :=
  ∀ (bs : List Byte) (i : Instr) (rest : List Byte), decode bs = .ok (i, rest) →
    i.wellFormed = true ∧ encode i ++ rest = bs

/-- Words of each family, from the rules' encoding lines. -/
def Obligations.EncodedWordsDecode : Prop :=
  decode [0x78#8] = .ok (.ld_a_b, []) ∧
  decode [0x31#8, 0xFE#8, 0xDF#8] = .ok (.ld_sp_d16 0xDFFE#16, []) ∧
  decode [0x9E#8] = .ok (.sbc_a_mhl, []) ∧
  decode [0xE8#8, 0xFF#8] = .ok (.add_sp_e8 0xFF#8, []) ∧
  decode [0x27#8] = .ok (.daa, []) ∧
  decode [0xCB#8, 0xCB#8] = .ok (.set_1_e, []) ∧
  decode [0xDC#8, 0x00#8, 0x20#8] = .ok (.call_c_a16 0x2000#16, [])

/-- R77: the length of an instruction is a function of its first byte, three bytes and two bytes for the
listed ones and one for every other, and that many bytes are enough to decode it (an illegal byte is
decoded from its one byte, R78).
R77 gives an illegal byte no length: its length 1 here is assumption log 11 (the model's choice). -/
def Obligations.LengthIsToldByFirstByte : Prop :=
  ∀ (op : Byte) (tl : List Byte),
    (∀ i rest, decode (op :: tl) = .ok (i, rest) → tl.length + 1 = rest.length + lengthOf op) ∧
    (lengthOf op ≤ tl.length + 1 → ∃ i rest, decode (op :: tl) = .ok (i, rest)) ∧
    (lengthOf op = 3 ↔ op.toNat ∈ [0x01, 0x11, 0x21, 0x31, 0x08, 0xC2, 0xC3, 0xC4, 0xCA, 0xCC, 0xCD,
      0xD2, 0xD4, 0xDA, 0xDC, 0xEA, 0xFA]) ∧
    (lengthOf op = 2 ↔ op.toNat ∈ [0x06, 0x0E, 0x16, 0x1E, 0x26, 0x2E, 0x36, 0x3E, 0x10, 0x18, 0x20,
      0x28, 0x30, 0x38, 0xC6, 0xCE, 0xD6, 0xDE, 0xE6, 0xEE, 0xF6, 0xFE, 0xE0, 0xF0, 0xE8, 0xF8, 0xCB]) ∧
    (lengthOf op = 3 ∨ lengthOf op = 2 ∨ lengthOf op = 1)

/-- R76: after the prefix every second byte is an instruction, and its fields select the operation. -/
def Obligations.PrefixedMapIsTotal : Prop :=
  ∀ (y z : Fin 8) (rest : List Byte),
    (∃ i, decode (0xCB#8 :: opXYZ 0 y z :: rest) = .ok (i, rest) ∧
      i.form = .rot (rotOfCode y) (opndOfCode z)) ∧
    (∃ i, decode (0xCB#8 :: opXYZ 1 y z :: rest) = .ok (i, rest) ∧ i.form = .bit y (opndOfCode z)) ∧
    (∃ i, decode (0xCB#8 :: opXYZ 2 y z :: rest) = .ok (i, rest) ∧ i.form = .res y (opndOfCode z)) ∧
    (∃ i, decode (0xCB#8 :: opXYZ 3 y z :: rest) = .ok (i, rest) ∧ i.form = .set y (opndOfCode z))

/-- R93, R240: the prefix with a second byte runs exactly the instruction of that prefixed row.
The constructor that holds the second byte is assumption log 6 (the model's choice). -/
def Obligations.PrefixRunsItsRow : Prop :=
  ∀ (op2 : Byte) (s : State), exec (.prefix_cb op2) s = exec (prefixedRow op2) s

/-! ### The step -/

/-- A running engine runs the instruction that the bytes at `pc` decode to, on the state with `pc` past
them, and then promotes a pending EI (R90, R98).
The wrap of `pc` is the spec's decision D6; `cfg` is state by assumption log 2. -/
def Obligations.StepRunsDecodedInstruction : Prop :=
  ∀ (s : State) (op : Byte) (tl : List Byte) (i : Instr), Running s →
    BytesAt s.bus s.pc (op :: tl) → decode (op :: tl) = .ok (i, []) →
    (s.cfg.handledSet = .full ∨ op ∉ controlFlowOpcodes) →
    step s = match exec i { s with pc := s.pc + BitVec.ofNat 16 (tl.length + 1) } with
      | .next t =>
        .next (if s.imePending && t.imePending then { t with ime := true, imePending := false } else t)
      | .fault r => .fault r
      | .refused r => .refused r

/-- R91, R302: when the opcode byte cannot be read, the step raises that read's condition and `pc` is
not advanced.
The fault carries the `Faulted` state by assumption log 4. -/
def Obligations.FetchFaultLeavesPc : Prop :=
  ∀ (s : State) (k : Fatal), Running s → s.bus.read s.pc = .error k →
    step s = .fault (.fatal k { s with faulted := true })

/-- R78, R94: exactly the eleven bytes decode to no instruction, and executing one raises
`InvalidOpcode` after its one-byte fetch.
That such a byte decodes to the row `illegal` is assumption log 11, and the fault carries the `Faulted`
state by log 4 (both the model's choice). -/
def Obligations.IllegalBytesAreFatal : Prop :=
  ∀ (op : Byte) (tl : List Byte),
    (decode (op :: tl) = .ok (.illegal op, tl) ↔
      op.toNat ∈ [0xD3, 0xDB, 0xDD, 0xE3, 0xE4, 0xEB, 0xEC, 0xED, 0xF4, 0xFC, 0xFD]) ∧
    (op.toNat ∈ [0xD3, 0xDB, 0xDD, 0xE3, 0xE4, 0xEB, 0xEC, 0xED, 0xF4, 0xFC, 0xFD] →
      ∀ s : State, Running s → s.bus.read s.pc = .ok op →
        step s = .fault (.fatal (.invalidOpcode op) { s with pc := s.pc + 1, faulted := true }))

/-- R94, at the instruction: an illegal byte's handler raises `InvalidOpcode` with no other effect.
The fault carries the `Faulted` state by assumption log 4. -/
def Obligations.IllegalRowStops : Prop :=
  ∀ (op : Byte) (s : State), FaultsAt (.illegal op) s (.invalidOpcode op)

/-- R95: under `doc_minimum` the control-flow opcodes, and no others, raise `UnimplementedOpcode` after
their opcode fetch; under `full` none does.
The parameter is the spec's decision D2; it stands in State by assumption log 2, and the fault carries the
`Faulted` state by log 4 (both the model's choice). -/
def Obligations.HandledSetSelectsControlFlow : Prop :=
  (∀ (op : Byte) (tl : List Byte) (i : Instr) (rest : List Byte), decode (op :: tl) = .ok (i, rest) →
    (op ∈ controlFlowOpcodes ↔ isControlFlow i.form = true)) ∧
  (∀ (s : State) (op : Byte), Running s → s.bus.read s.pc = .ok op → s.cfg.handledSet = .docMinimum →
    op ∈ controlFlowOpcodes →
    step s = .fault (.fatal (.unimplementedOpcode op) { s with pc := s.pc + 1, faulted := true })) ∧
  (∀ (s : State) (op : Byte), s.bus.read s.pc = .ok op →
    s.cfg.handledSet = .full ∨ op ∉ controlFlowOpcodes →
    ∀ op' t, step s ≠ .fault (.fatal (.unimplementedOpcode op') t))

/-- R96: a halted step changes nothing and returns 4, and the engine stays halted for as long as only
steps are taken.
The idle step is the spec's decision D7. -/
def Obligations.HaltedEngineIdles : Prop :=
  ∀ (s : State), s.faulted = false → s.halted = true →
    step s = .next s ∧ stepReturn s = .ok 4 ∧ ∀ n, Sys2Proof.core.run n s = .next s

/-- R97, R301: no step exists from `Faulted`; a step that raises enters `Faulted` from a running state,
promotes no EI, changes neither IME nor the configuration, and returns the condition.
The status is the spec's decision D10; the fault carries the `Faulted` state by assumption log 4, and
`cfg` is state by log 2. -/
def Obligations.FatalStepEntersFaulted : Prop :=
  (∀ s : State, s.faulted = true → step s = .fault .noStepFromFaulted ∧ stepReturn s = .noStep) ∧
  (∀ (s t : State) (k : Fatal), step s = .fault (.fatal k t) →
    Running s ∧ t.status = .faulted ∧ t.halted = false ∧ t.ime = s.ime ∧
    t.imePending = s.imePending ∧ t.cfg = s.cfg ∧ stepReturn s = .err k)

/-- R98: EI takes effect at the end of the next executed instruction unless that is DI; a step with
nothing pending leaves nothing pending unless it executes EI.
The delay is the spec's decision D8. -/
def Obligations.EiIsDelayedOneInstruction : Prop :=
  ∀ (s t u : State) (i : Instr), Running s → fetchInstr s = .ok (i, u) → step s = .next t →
    (s.imePending = true → t.imePending = false ∧ (i = .di → t.ime = false) ∧
      (i ≠ .di → t.ime = true)) ∧
    (s.imePending = false → i = .ei → t.imePending = true ∧ t.ime = s.ime) ∧
    (s.imePending = false → i ≠ .ei → t.imePending = false)

/-- R27-R29, over all instructions: only HALT and STOP set `halted` and none clears it; only DI and RETI
write IME; only EI and DI write the pending EI; the configuration is never written.
STOP's and RETI's parts are the spec's decisions D9 and D28; `cfg` is state by assumption log 2. -/
def Obligations.OnlyTheseWriteEngineFlags : Prop :=
  ∀ (i : Instr) (s t : State), exec i s = .next t →
    (t.halted ≠ s.halted → t.halted = true ∧ (i = .halt ∨ ∃ n, i = .stop n)) ∧
    (t.ime ≠ s.ime → i = .di ∨ i = .reti) ∧
    (t.imePending ≠ s.imePending → i = .ei ∨ i = .di) ∧
    t.faulted = s.faulted ∧ t.cfg = s.cfg

/-- R99, R100: a step returns a positive multiple of 4 exactly when it answers a next state, and the fatal
condition exactly when it raises one; a step that executes an instruction returns the count of that
instruction's row with the F it executes with, which the statements about the instructions give
(`Row`, `CondRow`).
The function `stepReturn` is assumption log 3 (the model's choice); no step from `Faulted` (R97), no count
on a fault (R99) and the idle step's 4 (R96) are the spec's decisions D10, D29 and D7, and the bound 24
is the highest count of R324. -/
def Obligations.StepReturnsCyclesOrFatal : Prop :=
  ∀ s : State,
    ((∃ n, stepReturn s = .ok n) ↔ ∃ t, step s = .next t) ∧
    (∀ n, stepReturn s = .ok n → 0 < n ∧ n % 4 = 0 ∧ n ≤ 24) ∧
    (∀ k, stepReturn s = .err k ↔ ∃ t, step s = .fault (.fatal k t)) ∧
    (stepReturn s = .noStep ↔ s.faulted = true) ∧
    (∀ i u t, Running s → fetchInstr s = .ok (i, u) → step s = .next t →
      ∃ n, formCycles u.f i.form = some n ∧ stepReturn s = .ok n)

/-- R33, R320: construction, for every value of the parameters.
`ime_pending` and `INIT_MEM` follow the spec's decisions D8 and D11; the parameters stand in State by
assumption log 2, and `mem` is one list by log 8. -/
def Obligations.ConstructionState : Prop :=
  ∀ (cfg : Config) (mbc : MbcVariant) (init : InitMem),
    let s := State.construct cfg mbc init
    (∀ r : R8, s.getR8 r = 0x00#8) ∧ (∀ k : Flag, s.flag k = false) ∧ s.sp = 0x0000#16 ∧
    s.pc = 0x0000#16 ∧ s.halted = false ∧ s.ime = false ∧ s.imePending = false ∧
    s.status = .running ∧ s.bus.ie = init.ie ∧ s.bus.mem = Memory.ofCells init.cells ∧
    s.bus.mbc = mbc ∧ s.cfg = cfg

/-- The invariant holds at reset.
Reset's memory contents are the model's choice, assumption log 1. -/
def Obligations.ResetMeetsInvariant : Prop := State.reset.Inv

/-- Every step keeps the invariant: F's low nibble stays zero (R21), the memory stays in canonical form
and holds bytes only where the block has storage (R32), and a faulted engine is not halted (R30). The
state a fatal step leaves meets it too.
The form of the memory list is the model's, assumption log 8, and the state a fault carries log 4. -/
def Obligations.StepKeepsInvariant : Prop :=
  ∀ s t : State, s.Inv →
    (step s = .next t → t.Inv) ∧ ∀ k, step s = .fault (.fatal k t) → t.Inv

/-! ### Registers and the bus -/

/-- R22, R23: a view reads back what was written to it (AF with its low nibble masked), and a write
touches its own cells only. -/
def Obligations.ViewsAreTheirCells : Prop :=
  ∀ (s : State) (v : Word),
    (∀ rr, rr ≠ .af → (s.setR16 rr v).getR16 rr = v) ∧
    ((s.setR16 .af v).getR16 .af = v &&& 0xFFF0#16) ∧
    s.setR16 .af v = (s.setR8 .a (hiByte v)).setR8 .f (loByte v) ∧
    s.setR16 .bc v = (s.setR8 .b (hiByte v)).setR8 .c (loByte v) ∧
    s.setR16 .de v = (s.setR8 .d (hiByte v)).setR8 .e (loByte v) ∧
    s.setR16 .hl v = (s.setR8 .h (hiByte v)).setR8 .l (loByte v) ∧
    s.setR16 .sp v = { s with sp := v } ∧ s.setR16 .pc v = { s with pc := v }

/-- R24: a flag write sets that flag and leaves the other bits of F, and all other state, unchanged. -/
def Obligations.FlagWriteIsOneBit : Prop :=
  ∀ (s : State) (k : Flag) (b : Bool),
    (s.setFlag k b).flag k = b ∧
    (∀ n, n < 8 → n ≠ flagBit k → (s.setFlag k b).f.getLsbD n = s.f.getLsbD n) ∧
    { s.setFlag k b with f := s.f } = s

/-- R41, with the `MbcNone` answers of R44 and R51: a bus read, by address.
The fatal regions, cartridge RAM and IE follow the spec's decisions D3, D4 and D5; `mem` is one list by
assumption log 8. -/
def Obligations.BusReadByAddress : Prop :=
  ∀ (b : Bus) (a : Word),
    let n := a.toNat
    (n ≤ 0x7FFF → b.read a = .ok (b.mem.read n)) ∧
    (0x8000 ≤ n → n ≤ 0x9FFF → b.read a = .error (.unimplementedRegion .read a)) ∧
    (0xA000 ≤ n → n ≤ 0xBFFF → b.read a = .error (.romAccessOutOfRange .read a)) ∧
    (0xC000 ≤ n → n ≤ 0xDFFF → b.read a = .ok (b.mem.read n)) ∧
    (0xE000 ≤ n → n ≤ 0xFDFF → b.read a = .ok (b.mem.read (n - 0x2000))) ∧
    (0xFE00 ≤ n → n ≤ 0xFE9F → b.read a = .error (.unimplementedRegion .read a)) ∧
    (0xFEA0 ≤ n → n ≤ 0xFEFF → b.read a = .ok 0x00#8) ∧
    (0xFF00 ≤ n → n ≤ 0xFF7F → b.read a = .ok (b.mem.read n)) ∧
    (0xFF80 ≤ n → n ≤ 0xFFFE → b.read a = .error (.unimplementedRegion .read a)) ∧
    (n = 0xFFFF → b.read a = .ok (if b.ie then 0x01#8 else 0x00#8))

/-- R42, with the `MbcNone` answers of R44 and R51: a bus write, by address.
The spec's decisions D3, D4, D5 and, for the array, D25; `mem` is one list by assumption log 8. -/
def Obligations.BusWriteByAddress : Prop :=
  ∀ (b : Bus) (a : Word) (v : Byte),
    let n := a.toNat
    (n ≤ 0x7FFF → b.write a v = .ok { b with mem := b.mem.write n v }) ∧
    (0x8000 ≤ n → n ≤ 0x9FFF → b.write a v = .error (.unimplementedRegion .write a)) ∧
    (0xA000 ≤ n → n ≤ 0xBFFF → b.write a v = .error (.romAccessOutOfRange .write a)) ∧
    (0xC000 ≤ n → n ≤ 0xDFFF → b.write a v = .ok { b with mem := b.mem.write n v }) ∧
    (0xE000 ≤ n → n ≤ 0xFDFF → b.write a v = .ok { b with mem := b.mem.write (n - 0x2000) v }) ∧
    (0xFE00 ≤ n → n ≤ 0xFE9F → b.write a v = .error (.unimplementedRegion .write a)) ∧
    (0xFEA0 ≤ n → n ≤ 0xFEFF → b.write a v = .ok b) ∧
    (0xFF00 ≤ n → n ≤ 0xFF7F → b.write a v = .ok { b with mem := b.mem.write n v }) ∧
    (0xFF80 ≤ n → n ≤ 0xFFFE → b.write a v = .error (.unimplementedRegion .write a)) ∧
    (n = 0xFFFF → b.write a v = .ok { b with ie := v.toNat % 2 == 1 })

/-- R46: WRAM is plain storage, its echo is the same location for reads and writes, and 0xDE00-0xDFFF
has no echo.
That 0xDE00-0xDFFF has no alias is the spec's own derivation in R46. -/
def Obligations.EchoIsWram : Prop :=
  ∀ (b : Bus) (a : Word) (v : Byte),
    (0xE000 ≤ a.toNat → a.toNat ≤ 0xFDFF →
      b.read a = b.read (a - 0x2000#16) ∧ b.write a v = b.write (a - 0x2000#16) v) ∧
    (0xC000 ≤ a.toNat → a.toNat ≤ 0xDFFF → ∃ b', b.write a v = .ok b' ∧ b'.read a = .ok v ∧
      (a.toNat ≤ 0xDDFF → b'.read (a + 0x2000#16) = .ok v) ∧
      ∀ x : Word, x ≠ a → (x ≠ a + 0x2000#16 ∨ 0xDE00 ≤ a.toNat) → b'.read x = b.read x)

/-- R52, R53, R55: a word written to plain storage reads back, low byte at the lower address, and
nothing else changes.
The order and the wrap are the spec's decisions D14 and D6. -/
def Obligations.WordsAreLittleEndian : Prop :=
  ∀ (s : State) (a v : Word), Plain a → Plain (a + 1) →
    ∃ t, s.writeWord a v = .ok t ∧ t.readWord a = .ok v ∧ t.readByte a = .ok (loByte v) ∧
      t.readByte (a + 1) = .ok (hiByte v) ∧ Keeps s t [] [a, a + 1]

/-- R54: under `MbcNone` an image of at most 32,768 bytes loads, byte `i` at address `i`; a longer one
fails at index 0x8000 with the bytes before it written.
Stores into the array are the spec's decision D25, a failed load D18. -/
def Obligations.ImageLoadFillsRom : Prop :=
  ∀ (s : State) (image : List Byte),
    (image.length ≤ 32768 → ∃ t, s.loadImage image = .ok t ∧
      (∀ i, (h : i < image.length) → t.readByte (BitVec.ofNat 16 i) = .ok image[i]) ∧
      (∀ x : Word, image.length ≤ x.toNat → t.readByte x = s.readByte x) ∧
      t = { s with bus := t.bus }) ∧
    (32768 < image.length →
      ∃ t, s.loadImage image = .error (.romAccessOutOfRange .write 0x8000#16, t) ∧
        ∀ i, (h : i < image.length) → i < 32768 →
          t.readByte (BitVec.ofNat 16 i) = .ok image[i])

/-! ### 8-bit loads -/

/-- LD r,r' and LD r,d8 (R140, R141). -/
def Obligations.RegisterLoads : Prop :=
  (∀ (i : Instr) (s : State) (d r : Reg), i.form = .ldRR d r →
    Row i s [opXYZ 1 d.code r.code] 4 ∧
    ∃ t, exec i s = .next t ∧ t.reg d = s.reg r ∧ Keeps s t [d] []) ∧
  (∀ (i : Instr) (s : State) (d : Reg) (n : Byte), i.form = .ldRImm d n →
    Row i s [opXYZ 0 d.code 6, n] 8 ∧
    ∃ t, exec i s = .next t ∧ t.reg d = n ∧ Keeps s t [d] [])

/-- LD r,(HL), LD A,(BC), LD A,(DE), LD A,(HL+), LD A,(HL-), LD A,(a16), LDH A,(a8), LD A,(C) (R142,
R145, R146, R151, R152, R154, R156, R158).
A fault carries the `Faulted` state by assumption log 4 (the model's choice: R97 leaves its contents
open). The wrap of HL+ and HL- is the spec's decision D6. -/
def Obligations.MemoryLoads : Prop :=
  ∀ (i : Instr) (s : State),
    (∀ d, i.form = .ldRHL d → Row i s [opXYZ 1 d.code 6] 8 ∧
      LoadsFrom i s s.hl (fun v t => t.reg d = v ∧ Keeps s t [d] [])) ∧
    (i.form = .ldAInd .bc → Row i s [0x0A#8] 8 ∧
      LoadsFrom i s (s.getR16 .bc) (fun v t => t.a = v ∧ Keeps s t [.a] [])) ∧
    (i.form = .ldAInd .de → Row i s [0x1A#8] 8 ∧
      LoadsFrom i s (s.getR16 .de) (fun v t => t.a = v ∧ Keeps s t [.a] [])) ∧
    (i.form = .ldAInd .hlInc → Row i s [0x2A#8] 8 ∧
      LoadsFrom i s s.hl (fun v t => t.a = v ∧ t.hl = s.hl + 1 ∧ Keeps s t [.a, .h, .l] [])) ∧
    (i.form = .ldAInd .hlDec → Row i s [0x3A#8] 8 ∧
      LoadsFrom i s s.hl (fun v t => t.a = v ∧ t.hl = s.hl - 1 ∧ Keeps s t [.a, .h, .l] [])) ∧
    (∀ a, i.form = .ldAAbs a → Row i s [0xFA#8, loByte a, hiByte a] 16 ∧
      LoadsFrom i s a (fun v t => t.a = v ∧ Keeps s t [.a] [])) ∧
    (∀ n, i.form = .ldhLoad n → Row i s [0xF0#8, n] 12 ∧
      LoadsFrom i s (BitVec.ofNat 16 (0xFF00 + n.toNat)) (fun v t => t.a = v ∧ Keeps s t [.a] [])) ∧
    (i.form = .ldAC → Row i s [0xF2#8] 8 ∧
      LoadsFrom i s (BitVec.ofNat 16 (0xFF00 + s.c.toNat))
        (fun v t => t.a = v ∧ Keeps s t [.a] []))

/-- LD (HL),r, LD (HL),d8, LD (BC),A, LD (DE),A, LD (HL+),A, LD (HL-),A, LD (a16),A, LDH (a8),A,
LD (C),A (R143, R144, R147-R150, R153, R155, R157).
A fault carries the `Faulted` state by assumption log 4 (the model's choice: R97 leaves its contents
open). The wrap of HL+ and HL- is the spec's decision D6. -/
def Obligations.MemoryStores : Prop :=
  ∀ (i : Instr) (s : State),
    (∀ r, i.form = .ldHLR r → Row i s [opXYZ 1 6 r.code] 8 ∧
      StoresTo i s s.hl (s.reg r) (fun t => Keeps s t [] [s.hl])) ∧
    (∀ n, i.form = .ldHLImm n → Row i s [0x36#8, n] 12 ∧
      StoresTo i s s.hl n (fun t => Keeps s t [] [s.hl])) ∧
    (i.form = .ldIndA .bc → Row i s [0x02#8] 8 ∧
      StoresTo i s (s.getR16 .bc) s.a (fun t => Keeps s t [] [s.getR16 .bc])) ∧
    (i.form = .ldIndA .de → Row i s [0x12#8] 8 ∧
      StoresTo i s (s.getR16 .de) s.a (fun t => Keeps s t [] [s.getR16 .de])) ∧
    (i.form = .ldIndA .hlInc → Row i s [0x22#8] 8 ∧
      StoresTo i s s.hl s.a (fun t => t.hl = s.hl + 1 ∧ Keeps s t [.h, .l] [s.hl])) ∧
    (i.form = .ldIndA .hlDec → Row i s [0x32#8] 8 ∧
      StoresTo i s s.hl s.a (fun t => t.hl = s.hl - 1 ∧ Keeps s t [.h, .l] [s.hl])) ∧
    (∀ a, i.form = .ldAbsA a → Row i s [0xEA#8, loByte a, hiByte a] 16 ∧
      StoresTo i s a s.a (fun t => Keeps s t [] [a])) ∧
    (∀ n, i.form = .ldhA n → Row i s [0xE0#8, n] 12 ∧
      StoresTo i s (BitVec.ofNat 16 (0xFF00 + n.toNat)) s.a
        (fun t => Keeps s t [] [BitVec.ofNat 16 (0xFF00 + n.toNat)])) ∧
    (i.form = .ldCA → Row i s [0xE2#8] 8 ∧
      StoresTo i s (BitVec.ofNat 16 (0xFF00 + s.c.toNat)) s.a
        (fun t => Keeps s t [] [BitVec.ofNat 16 (0xFF00 + s.c.toNat)]))

/-! ### 16-bit loads and the stack -/

/-- LD rr,d16 (R170). -/
def Obligations.PairImmediateLoads : Prop :=
  ∀ (i : Instr) (s : State) (p : RR) (v : Word), i.form = .ldRRImm p v →
    Row i s [opXPQZ 0 p.code 0 1, loByte v, hiByte v] 12 ∧
    ∃ t, exec i s = .next t ∧ t.getR16 p.view = v ∧ t.f = s.f ∧ t.pc = s.pc ∧
      (p ≠ .sp → t.sp = s.sp) ∧
      Frame s t (match p with | .bc => [.b, .c] | .de => [.d, .e] | .hl => [.h, .l] | .sp => []) []

/-- LD SP,HL and LD (a16),SP (R172, R171): the word is stored low byte first, and when the second write
is refused the first byte has been written.
A fault carries the `Faulted` state by assumption log 4 (the model's choice: R97 leaves its contents
open). The order and the wrap are the spec's decisions D14 and D6. -/
def Obligations.StackPointerTransfers : Prop :=
  ∀ (i : Instr) (s : State),
    (i.form = .ldSPHL → Row i s [0xF9#8] 8 ∧
      ∃ t, exec i s = .next t ∧ t.sp = s.hl ∧ t.f = s.f ∧ t.pc = s.pc ∧ Frame s t [] []) ∧
    (∀ a, i.form = .ldAbsSP a → Row i s [0x08#8, loByte a, hiByte a] 20 ∧
      (accessible a = true → accessible (a + 1) = true → ∃ t, exec i s = .next t ∧
        t.bus.read a = .ok (storedByte a (loByte s.sp)) ∧
        t.bus.read (a + 1) = .ok (storedByte (a + 1) (hiByte s.sp)) ∧ Keeps s t [] [a, a + 1]) ∧
      (∀ k, s.bus.write a (loByte s.sp) = .error k → FaultsAt i s k) ∧
      (∀ k b, s.bus.write a (loByte s.sp) = .ok b → b.write (a + 1) (hiByte s.sp) = .error k →
        exec i s = .fault (.fatal k { s with bus := b, faulted := true })))

/-- PUSH rr (R174, R176).
The write order is the spec's decision D14.
A fault carries the `Faulted` state by assumption log 4 (the model's choice: R97 leaves its contents
open). -/
def Obligations.PushStoresPair : Prop :=
  ∀ (i : Instr) (s : State) (p : StkPair), i.form = .push p →
    Row i s [opXPQZ 3 p.code 0 5] 16 ∧
    (accessible (s.sp - 1) = true → accessible (s.sp - 2) = true →
      ∃ t, exec i s = .next t ∧ Pushed s t (s.getR16 p.view) ∧ t.pc = s.pc) ∧
    PushFaults i s (s.getR16 p.view)

/-- R176, the corner at the reset value SP = 0x0000: the first write goes to IE and the second, to
0xFFFE, is fatal.
The corner is the spec's own derivation in R176.
A fault carries the `Faulted` state by assumption log 4 (the model's choice: R97 leaves its contents
open). -/
def Obligations.PushAtResetStackIsFatal : Prop :=
  ∀ (i : Instr) (s : State) (p : StkPair), i.form = .push p → s.sp = 0x0000#16 →
    exec i s = .fault (.fatal (.unimplementedRegion .write 0xFFFE#16)
      { s with
        sp := 0xFFFE#16
        bus := { s.bus with ie := (hiByte (s.getR16 p.view)).getLsbD 0 }
        faulted := true })

/-- POP rr (R175, R177): POP AF masks the low nibble of F.
A fault carries the `Faulted` state by assumption log 4 (the model's choice: R97 leaves its contents
open). -/
def Obligations.PopLoadsPair : Prop :=
  ∀ (i : Instr) (s : State) (p : StkPair), i.form = .pop p →
    Row i s [opXPQZ 3 p.code 0 1] 12 ∧
    (∀ lo hi, s.bus.read s.sp = .ok lo → s.bus.read (s.sp + 1) = .ok hi →
      ∃ t, exec i s = .next t ∧ t.sp = s.sp + 2 ∧ t.pc = s.pc ∧
        (p ≠ .af → (t.getR16 p.view).toNat = hi.toNat * 256 + lo.toNat ∧ t.f = s.f) ∧
        (p = .af → t.a = hi ∧ t.f.toNat = lo.toNat / 16 * 16) ∧
        Frame s t (match p with | .bc => [.b, .c] | .de => [.d, .e] | .hl => [.h, .l] | .af => [.a])
          []) ∧
    PopFaults i s

/-- PUSH of a pair and then POP of the same pair, on a stack in plain storage, gives back the pair and
SP (R174-R177; for AF, F's low nibble must be zero, which R21 keeps). -/
def Obligations.PopUndoesPush : Prop :=
  ∀ (i j : Instr) (s : State) (p : StkPair), i.form = .push p → j.form = .pop p →
    Plain (s.sp - 1) → Plain (s.sp - 2) → s.f &&& 0x0F#8 = 0#8 →
    ∃ t u, exec i s = .next t ∧ exec j t = .next u ∧ u = { s with bus := t.bus }

/-! ### 8-bit arithmetic and logic -/

/-- ADD and ADC (R180-R185, R111).
A fault carries the `Faulted` state by assumption log 4 (the model's choice: R97 leaves its contents
open). -/
def Obligations.AddBytesToA : Prop :=
  ∀ (i : Instr) (s : State) (adc : Bool) (y : Src), i.form = .alu (if adc then .adc else .add) y →
    Row i s (aluBytes (if adc then 1 else 0) y) (aluCycles y) ∧ SrcFaults i s y ∧
    ∀ v, SrcIs s y v →
      let c := (adc && s.flag .c).toNat
      ∃ t, exec i s = .next t ∧ t.a.toNat = (s.a.toNat + v.toNat + c) % 256 ∧
        FlagsAre s t (t.a == 0#8) false (decide (s.a.toNat % 16 + v.toNat % 16 + c > 15))
          (decide (s.a.toNat + v.toNat + c > 255)) ∧ KeepsButF s t [.a] []

/-- SUB, SBC and CP (R186-R191, R201-R203, R113, R114): H of SBC follows `SBC_H_RULE`; CP discards the
result.
`SBC_H_RULE` is the spec's decision D12, and it stands in State by assumption log 2.
A fault carries the `Faulted` state by assumption log 4 (the model's choice: R97 leaves its contents
open). -/
def Obligations.SubtractBytesFromA : Prop :=
  ∀ (i : Instr) (s : State) (op : AluOp) (y : Src), i.form = .alu op y →
    op = .sub ∨ op = .sbc ∨ op = .cp →
    Row i s (aluBytes op.code y) (aluCycles y) ∧ SrcFaults i s y ∧
    ∀ v, SrcIs s y v →
      let c := (op == .sbc && s.flag .c).toNat
      let r := (s.a.toNat + 256 - (v.toNat + c) % 256) % 256
      let h := match s.cfg.sbcHRule with
        | .silicon => decide (v.toNat % 16 + c > s.a.toNat % 16)
        | .docLiteral => decide ((v.toNat + c) % 16 > s.a.toNat % 16)
      ∃ t, exec i s = .next t ∧ (op ≠ .cp → t.a.toNat = r) ∧ (op = .cp → t.a = s.a) ∧
        FlagsAre s t (r == 0) true h (decide (v.toNat + c > s.a.toNat)) ∧ KeepsButF s t [.a] []

/-- AND, XOR and OR (R192-R200, R117-R119).
A fault carries the `Faulted` state by assumption log 4 (the model's choice: R97 leaves its contents
open). -/
def Obligations.LogicOnA : Prop :=
  ∀ (i : Instr) (s : State) (op : AluOp) (y : Src), i.form = .alu op y →
    op = .and ∨ op = .xor ∨ op = .or →
    Row i s (aluBytes op.code y) (aluCycles y) ∧ SrcFaults i s y ∧
    ∀ v, SrcIs s y v →
      ∃ t, exec i s = .next t ∧
        (∀ n, n < 8 → t.a.getLsbD n =
          (if op = .and then s.a.getLsbD n && v.getLsbD n
            else if op = .xor then s.a.getLsbD n ^^ v.getLsbD n
            else s.a.getLsbD n || v.getLsbD n)) ∧
        FlagsAre s t (t.a == 0#8) false (op == .and) false ∧ KeepsButF s t [.a] []

/-- INC r, INC (HL), DEC r, DEC (HL) (R204-R207, R115, R116): C unchanged.
A fault carries the `Faulted` state by assumption log 4 (the model's choice: R97 leaves its contents
open). -/
def Obligations.IncrementDecrementByte : Prop :=
  ∀ (i : Instr) (s : State) (o : Opnd),
    (i.form = .inc8 o → Row i s [opXYZ 0 o.code 4] (byOpnd o 4 12) ∧ OpndFaults i s o ∧
      ∀ v, OpndIs s o v → ∃ t, exec i s = .next t ∧ WritesBack s t o (v + 1) ∧
        FlagsAre s t (v.toNat == 255) false (decide (v.toNat % 16 = 15)) (s.flag .c)) ∧
    (i.form = .dec8 o → Row i s [opXYZ 0 o.code 5] (byOpnd o 4 12) ∧ OpndFaults i s o ∧
      ∀ v, OpndIs s o v → ∃ t, exec i s = .next t ∧ WritesBack s t o (v - 1) ∧
        FlagsAre s t (v.toNat == 1) true (decide (v.toNat % 16 = 0)) (s.flag .c))

/-- R131: the laws of byte addition and subtraction, for every F and both half-carry rules.
The laws are the spec's own derivations. -/
def Obligations.SubtractionUndoesAddition : Prop :=
  ∀ (rule : SbcHRule) (f g x y : Byte),
    (addBytes f x y false).1 = x + y ∧ (subBytes rule f x y false).1 = x - y ∧
    (subBytes rule g (addBytes f x y false).1 y false).1 = x ∧
    getFlag (subBytes rule f x y false).2 .c = decide (y.toNat > x.toNat)

/-! ### 16-bit arithmetic -/

/-- ADD HL,rr (R220, R112): Z unchanged, H from bit 11, C from bit 15. -/
def Obligations.AddPairToHL : Prop :=
  ∀ (i : Instr) (s : State) (p : RR), i.form = .addHL p →
    Row i s [opXPQZ 0 p.code 1 1] 8 ∧
    let x := s.hl.toNat
    let y := (s.getR16 p.view).toNat
    ∃ t, exec i s = .next t ∧ t.hl.toNat = (x + y) % 65536 ∧
      FlagsAre s t (s.flag .z) false (decide (x % 4096 + y % 4096 > 4095))
        (decide (x + y > 65535)) ∧ KeepsButF s t [.h, .l] []

/-- INC rr and DEC rr (R221, R222): the pair wraps and no flag is written.
INC's wrap is the spec's decision D6. -/
def Obligations.IncrementDecrementPair : Prop :=
  ∀ (i : Instr) (s : State) (p : RR),
    let dest : List Reg := match p with
      | .bc => [.b, .c]
      | .de => [.d, .e]
      | .hl => [.h, .l]
      | .sp => []
    (i.form = .inc16 p → Row i s [opXPQZ 0 p.code 0 3] 8 ∧
      ∃ t, exec i s = .next t ∧
        (t.getR16 p.view).toNat = ((s.getR16 p.view).toNat + 1) % 65536 ∧ t.f = s.f ∧
        t.pc = s.pc ∧ (p ≠ .sp → t.sp = s.sp) ∧ Frame s t dest []) ∧
    (i.form = .dec16 p → Row i s [opXPQZ 0 p.code 1 3] 8 ∧
      ∃ t, exec i s = .next t ∧
        (t.getR16 p.view).toNat = ((s.getR16 p.view).toNat + 65535) % 65536 ∧ t.f = s.f ∧
        t.pc = s.pc ∧ (p ≠ .sp → t.sp = s.sp) ∧ Frame s t dest [])

/-- ADD SP,e8 and LD HL,SP+e8 (R223, R173, R120): the offset is signed, H and C come from the unsigned
low-byte addition, Z and N are cleared. -/
def Obligations.StackPointerOffset : Prop :=
  ∀ (i : Instr) (s : State) (n : Byte),
    let sum := BitVec.ofInt 16 (s.sp.toNat + n.toInt)
    let h := decide (s.sp.toNat % 16 + n.toNat % 16 > 15)
    let c := decide (s.sp.toNat % 256 + n.toNat > 255)
    (i.form = .addSP n → Row i s [0xE8#8, n] 16 ∧
      ∃ t, exec i s = .next t ∧ t.sp = sum ∧ FlagsAre s t false false h c ∧ t.pc = s.pc ∧
        Frame s t [] []) ∧
    (i.form = .ldHLSP n → Row i s [0xF8#8, n] 12 ∧
      ∃ t, exec i s = .next t ∧ t.hl = sum ∧ FlagsAre s t false false h c ∧
        KeepsButF s t [.h, .l] [])

/-! ### Accumulator and flag operations -/

/-- RLCA, RRCA, RLA, RRA (R230-R233): the rotate of A, with Z cleared.
The cleared Z is the spec's decision D17. -/
def Obligations.AccumulatorRotates : Prop :=
  ∀ (i : Instr) (s : State) (op : RotOp) (code : Byte),
    (i.form = .rlca ∧ op = .rlc ∧ code = 0x07#8) ∨ (i.form = .rrca ∧ op = .rrc ∧ code = 0x0F#8) ∨
      (i.form = .rla ∧ op = .rl ∧ code = 0x17#8) ∨ (i.form = .rra ∧ op = .rr ∧ code = 0x1F#8) →
    Row i s [code] 4 ∧
    let r := rotSpec op (s.flag .c) s.a
    ∃ t, exec i s = .next t ∧ t.a.toNat = r.1 ∧ FlagsAre s t false false false r.2 ∧
      KeepsButF s t [.a] []

/-- DAA (R234, R130). -/
def Obligations.DecimalAdjust : Prop :=
  ∀ (i : Instr) (s : State), i.form = .daa →
    Row i s [0x27#8] 4 ∧
    let a := s.a.toNat
    let low := s.flag .h || (!s.flag .n && decide (a % 16 > 9))
    let high := s.flag .c || (!s.flag .n && decide (a > 0x99))
    let adj := (if low then 6 else 0) + (if high then 0x60 else 0)
    ∃ t, exec i s = .next t ∧
      t.a.toNat = (if s.flag .n then a + 256 - adj else a + adj) % 256 ∧
      FlagsAre s t (t.a == 0#8) (s.flag .n) false high ∧ KeepsButF s t [.a] []

/-- ADD of two BCD numbers and then DAA is their BCD sum, with the carry out in C (R130, R111). -/
def Obligations.DaaCompletesBcdAddition : Prop :=
  ∀ (f : Byte) (m n : Nat), m < 100 → n < 100 →
    let sum := addBytes f (bcd m) (bcd n) false
    (daa sum.2 sum.1).1 = bcd ((m + n) % 100) ∧
    getFlag (daa sum.2 sum.1).2 .c = decide (m + n ≥ 100)

/-- CPL, SCF, CCF (R235-R237). -/
def Obligations.ComplementAndCarryFlags : Prop :=
  ∀ (i : Instr) (s : State),
    (i.form = .cpl → Row i s [0x2F#8] 4 ∧
      ∃ t, exec i s = .next t ∧ t.a.toNat = 255 - s.a.toNat ∧
        FlagsAre s t (s.flag .z) true true (s.flag .c) ∧ KeepsButF s t [.a] []) ∧
    (i.form = .scf → Row i s [0x37#8] 4 ∧
      ∃ t, exec i s = .next t ∧ FlagsAre s t (s.flag .z) false false true ∧
        KeepsButF s t [] []) ∧
    (i.form = .ccf → Row i s [0x3F#8] 4 ∧
      ∃ t, exec i s = .next t ∧ FlagsAre s t (s.flag .z) false false (!s.flag .c) ∧
        KeepsButF s t [] [])

/-! ### CB-prefixed operations -/

/-- RLC, RRC, RL, RR, SLA, SRA, SWAP, SRL on a register or `(HL)` (R241-R256, R121-R128).
A fault carries the `Faulted` state by assumption log 4 (the model's choice: R97 leaves its contents
open). -/
def Obligations.RotatesAndShifts : Prop :=
  ∀ (i : Instr) (s : State) (op : RotOp) (o : Opnd), i.form = .rot op o →
    Row i s [0xCB#8, opXYZ 0 op.code o.code] (byOpnd o 8 16) ∧ OpndFaults i s o ∧
    ∀ v, OpndIs s o v →
      let r := rotSpec op (s.flag .c) v
      ∃ t, exec i s = .next t ∧ WritesBack s t o (BitVec.ofNat 8 r.1) ∧
        FlagsAre s t (r.1 == 0) false false r.2

/-- BIT b on a register or `(HL)` (R257, R258, R129): nothing is written back.
A fault carries the `Faulted` state by assumption log 4 (the model's choice: R97 leaves its contents
open). -/
def Obligations.BitTests : Prop :=
  ∀ (i : Instr) (s : State) (b : Fin 8) (o : Opnd), i.form = .bit b o →
    Row i s [0xCB#8, opXYZ 1 b o.code] (byOpnd o 8 12) ∧ OpndFaults i s o ∧
    ∀ v, OpndIs s o v →
      ∃ t, exec i s = .next t ∧ FlagsAre s t (v.toNat / 2 ^ b.val % 2 == 0) false true (s.flag .c) ∧
        KeepsButF s t [] []

/-- RES b and SET b on a register or `(HL)` (R259-R262): no flag is written.
A fault carries the `Faulted` state by assumption log 4 (the model's choice: R97 leaves its contents
open). -/
def Obligations.BitResetsAndSets : Prop :=
  ∀ (i : Instr) (s : State) (b : Fin 8) (o : Opnd),
    (i.form = .res b o → Row i s [0xCB#8, opXYZ 2 b o.code] (byOpnd o 8 16) ∧ OpndFaults i s o ∧
      ∀ v, OpndIs s o v → ∃ t n, exec i s = .next t ∧
        (∀ k, k < 8 → n.getLsbD k = (k != b.val && v.getLsbD k)) ∧ WritesBack s t o n ∧
        t.f = s.f) ∧
    (i.form = .set b o → Row i s [0xCB#8, opXYZ 3 b o.code] (byOpnd o 8 16) ∧ OpndFaults i s o ∧
      ∀ v, OpndIs s o v → ∃ t n, exec i s = .next t ∧
        (∀ k, k < 8 → n.getLsbD k = (k == b.val || v.getLsbD k)) ∧ WritesBack s t o n ∧
        t.f = s.f)

/-! ### Control and control flow -/

/-- NOP, HALT, STOP, DI, EI (R270-R274).
The spec's decisions D8 (DI, EI) and D9 (STOP). -/
def Obligations.CpuControl : Prop :=
  ∀ (i : Instr) (s : State),
    (i.form = .nop → Row i s [0x00#8] 4 ∧ exec i s = .next s) ∧
    (i.form = .halt → Row i s [0x76#8] 4 ∧ exec i s = .next { s with halted := true }) ∧
    (∀ n, i.form = .stop n → Row i s [0x10#8, n] 4 ∧ exec i s = .next { s with halted := true }) ∧
    (i.form = .di → Row i s [0xF3#8] 4 ∧
      exec i s = .next { s with ime := false, imePending := false }) ∧
    (i.form = .ei → Row i s [0xFB#8] 4 ∧ exec i s = .next { s with imePending := true })

/-- JR, JR cc, JP, JP cc, JP HL (R275-R279): only `pc` changes; the offset is signed, from the address
past the instruction.
The wrap and the untaken forms are the spec's decisions D6 and D23. -/
def Obligations.Jumps : Prop :=
  ∀ (i : Instr) (s : State),
    (∀ e, i.form = .jr e → Row i s [0x18#8, e] 12 ∧
      exec i s = .next { s with pc := BitVec.ofInt 16 (s.pc.toNat + e.toInt) }) ∧
    (∀ cc e, i.form = .jrcc cc e → CondRow i s cc [opXYZ 0 (cc.code + 4) 0, e] 12 8 ∧
      (CondHolds s cc →
        exec i s = .next { s with pc := BitVec.ofInt 16 (s.pc.toNat + e.toInt) }) ∧
      (¬CondHolds s cc → exec i s = .next s)) ∧
    (∀ a, i.form = .jp a → Row i s [0xC3#8, loByte a, hiByte a] 16 ∧
      exec i s = .next { s with pc := a }) ∧
    (∀ cc a, i.form = .jpcc cc a →
      CondRow i s cc [opXYZ 3 cc.code 2, loByte a, hiByte a] 16 12 ∧
      (CondHolds s cc → exec i s = .next { s with pc := a }) ∧
      (¬CondHolds s cc → exec i s = .next s)) ∧
    (i.form = .jphl → Row i s [0xE9#8] 4 ∧
      ∃ t, exec i s = .next t ∧ t.pc.toNat = s.h.toNat * 256 + s.l.toNat ∧
        t = { s with pc := t.pc })

/-- CALL, CALL cc and RST (R280, R281, R285): the pushed `pc` is the address past the instruction.
The untaken forms are the spec's decision D23.
A fault carries the `Faulted` state by assumption log 4 (the model's choice: R97 leaves its contents
open). -/
def Obligations.CallsAndRestarts : Prop :=
  ∀ (i : Instr) (s : State),
    let stackOk := accessible (s.sp - 1) = true ∧ accessible (s.sp - 2) = true
    (∀ a, i.form = .call a → Row i s [0xCD#8, loByte a, hiByte a] 24 ∧ PushFaults i s s.pc ∧
      (stackOk → ∃ t, exec i s = .next t ∧ Pushed s t s.pc ∧ t.pc = a)) ∧
    (∀ cc a, i.form = .callcc cc a →
      CondRow i s cc [opXYZ 3 cc.code 4, loByte a, hiByte a] 24 12 ∧
      (CondHolds s cc → PushFaults i s s.pc ∧
        (stackOk → ∃ t, exec i s = .next t ∧ Pushed s t s.pc ∧ t.pc = a)) ∧
      (¬CondHolds s cc → exec i s = .next s)) ∧
    (∀ y, i.form = .rst y → Row i s [opXYZ 3 y 7] 16 ∧ PushFaults i s s.pc ∧
      (stackOk → ∃ t, exec i s = .next t ∧ Pushed s t s.pc ∧ t.pc.toNat = y.val * 8))

/-- RET, RET cc and RETI (R282-R284): RETI sets IME at once and leaves the pending EI.
The untaken form and RETI's IME are the spec's decisions D23 and D28.
A fault carries the `Faulted` state by assumption log 4 (the model's choice: R97 leaves its contents
open). -/
def Obligations.Returns : Prop :=
  ∀ (i : Instr) (s : State),
    let returns := fun (ime : Bool) => ∀ lo hi, s.bus.read s.sp = .ok lo →
      s.bus.read (s.sp + 1) = .ok hi →
      ∃ t, exec i s = .next t ∧ t.pc.toNat = hi.toNat * 256 + lo.toNat ∧ t.sp = s.sp + 2 ∧
        t.ime = ime ∧ t = { s with pc := t.pc, sp := t.sp, ime := t.ime }
    (i.form = .ret → Row i s [0xC9#8] 16 ∧ PopFaults i s ∧ returns s.ime) ∧
    (∀ cc, i.form = .retcc cc → CondRow i s cc [opXYZ 3 cc.code 0] 20 8 ∧
      (CondHolds s cc → PopFaults i s ∧ returns s.ime) ∧
      (¬CondHolds s cc → exec i s = .next s)) ∧
    (i.form = .reti → Row i s [0xD9#8] 16 ∧ PopFaults i s ∧ returns true)

/-- A taken call and then RET, on a stack in plain storage, comes back past the call with every register
as it was (R280, R282). -/
def Obligations.ReturnUndoesCall : Prop :=
  ∀ (i j : Instr) (s : State) (a : Word), i.form = .call a → j.form = .ret →
    Plain (s.sp - 1) → Plain (s.sp - 2) →
    ∃ t, exec i s = .next t ∧
      ∀ x : Word, exec j { t with pc := x } = .next { s with bus := t.bus }

/-- R306 (informative) and R284: what a delivering collaborator does between steps is representable, and
RETI at the end of the handler goes back to where the engine was, with IME set. -/
def Obligations.RetiEndsDeliveredInterrupt : Prop :=
  ∀ (s : State) (k : Fin 5) (j : Instr), j.form = .reti → Plain (s.sp - 1) → Plain (s.sp - 2) →
    ∃ t, s.deliverInterrupt k = .ok t ∧ t.pc.toNat = 0x40 + 8 * k.val ∧ t.ime = false ∧
      t.halted = false ∧ t.sp = s.sp - 2 ∧
      ∀ x : Word, exec j { t with pc := x } =
        .next { s with bus := t.bus, ime := true, halted := false }

/-! ### Refused operand fetches and runs -/

/-- R91-R93, R301, R302: an instruction whose opcode byte is read and whose second or third byte is
refused (an immediate, the byte after 0xCB, STOP's second byte) raises that read's condition with `pc`
past the bytes fetched before it and nothing else done; the check of the handled set comes first, so an
unhandled opcode raises `UnimplementedOpcode` whatever its operand bytes' reads would do.
The order is the spec's decision D24, the wrap of `pc` D6, the handled set D2. The fault carries the
`Faulted` state by assumption log 4, and `cfg` is state by log 2 (both the model's choice). -/
def Obligations.OperandFetchFaults : Prop :=
  ∀ (s : State) (op : Byte), Running s → s.bus.read s.pc = .ok op →
    (s.cfg.handledSet = .full ∨ op ∉ controlFlowOpcodes → ∀ k : Fatal,
      (1 < lengthOf op → s.bus.read (s.pc + 1) = .error k →
        step s = .fault (.fatal k { s with pc := s.pc + 1, faulted := true })) ∧
      (lengthOf op = 3 → ∀ v, s.bus.read (s.pc + 1) = .ok v → s.bus.read (s.pc + 2) = .error k →
        step s = .fault (.fatal k { s with pc := s.pc + 2, faulted := true }))) ∧
    (s.cfg.handledSet = .docMinimum → op ∈ controlFlowOpcodes →
      step s = .fault (.fatal (.unimplementedOpcode op) { s with pc := s.pc + 1, faulted := true }))

/-- R63, R64, R101, operation by operation: the reply each gives the collaborator and the block it leaves.
The register accessors read and write their cells, F masked (R21), and the views of R22 and R23; the flag
accessors are R24's; the bus accesses are those of R41, R42, R52 and R53, a refused one replying its
error, with no fatal condition. Over all of them: none reaches `ime_pending`, the `Faulted` status or the
parameters, one that replies a value changes nothing, and only a word write leaves anything changed
when it is refused.
What a refused word write leaves is assumption log 9, and `cfg` is state by log 2. The order of a word's two
accesses and the wrap are the spec's decisions D14 and D6, the writers' names D22. -/
def Obligations.CollaboratorOperations : Prop :=
  ∀ s : State,
    -- register and flag accessors
    ((HostOp.getR8 .a).perform s = (.byte s.a, s) ∧ (HostOp.getR8 .f).perform s = (.byte s.f, s) ∧
      (HostOp.getR8 .b).perform s = (.byte s.b, s) ∧ (HostOp.getR8 .c).perform s = (.byte s.c, s) ∧
      (HostOp.getR8 .d).perform s = (.byte s.d, s) ∧ (HostOp.getR8 .e).perform s = (.byte s.e, s) ∧
      (HostOp.getR8 .h).perform s = (.byte s.h, s) ∧ (HostOp.getR8 .l).perform s = (.byte s.l, s)) ∧
    (∀ v : Byte, (HostOp.setR8 .a v).perform s = (.done, { s with a := v }) ∧
      (HostOp.setR8 .f v).perform s = (.done, { s with f := v &&& 0xF0#8 }) ∧
      (HostOp.setR8 .b v).perform s = (.done, { s with b := v }) ∧
      (HostOp.setR8 .c v).perform s = (.done, { s with c := v }) ∧
      (HostOp.setR8 .d v).perform s = (.done, { s with d := v }) ∧
      (HostOp.setR8 .e v).perform s = (.done, { s with e := v }) ∧
      (HostOp.setR8 .h v).perform s = (.done, { s with h := v }) ∧
      (HostOp.setR8 .l v).perform s = (.done, { s with l := v })) ∧
    (∀ rr, (HostOp.getR16 rr).perform s = (.word (s.getR16 rr), s)) ∧
    (s.getR16 .af).toNat = s.a.toNat * 256 + s.f.toNat ∧
    (s.getR16 .bc).toNat = s.b.toNat * 256 + s.c.toNat ∧
    (s.getR16 .de).toNat = s.d.toNat * 256 + s.e.toNat ∧
    (s.getR16 .hl).toNat = s.h.toNat * 256 + s.l.toNat ∧ s.getR16 .sp = s.sp ∧ s.getR16 .pc = s.pc ∧
    (∀ rr v, (HostOp.setR16 rr v).perform s = (.done, s.setR16 rr v)) ∧
    (∀ k, (HostOp.flagValue k).perform s = (.bool (s.f.getLsbD (flagBit k)), s)) ∧
    (∀ k b, (HostOp.setFlag k b).perform s = (.done, s.setFlag k b)) ∧
    -- the engine flags
    HostOp.getHalted.perform s = (.bool s.halted, s) ∧ HostOp.getIme.perform s = (.bool s.ime, s) ∧
    (∀ b, (HostOp.setHalted b).perform s = (.done, { s with halted := b })) ∧
    (∀ b, (HostOp.setIme b).perform s = (.done, { s with ime := b })) ∧
    -- bus accesses, one byte
    (∀ a v, s.bus.read a = .ok v → (HostOp.readByte a).perform s = (.byte v, s)) ∧
    (∀ a k, s.bus.read a = .error k → (HostOp.readByte a).perform s = (.error k, s)) ∧
    (∀ a v b, s.bus.write a v = .ok b →
      (HostOp.writeByte a v).perform s = (.done, { s with bus := b })) ∧
    (∀ a v k, s.bus.write a v = .error k → (HostOp.writeByte a v).perform s = (.error k, s)) ∧
    -- bus accesses, two bytes
    (∀ a lo hi, s.bus.read a = .ok lo → s.bus.read (a + 1) = .ok hi →
      ∃ w : Word, (HostOp.readWord a).perform s = (.word w, s) ∧ w.toNat = hi.toNat * 256 + lo.toNat) ∧
    (∀ a k, s.bus.read a = .error k → (HostOp.readWord a).perform s = (.error k, s)) ∧
    (∀ a lo k, s.bus.read a = .ok lo → s.bus.read (a + 1) = .error k →
      (HostOp.readWord a).perform s = (.error k, s)) ∧
    (∀ a v b c, s.bus.write a (loByte v) = .ok b → b.write (a + 1) (hiByte v) = .ok c →
      (HostOp.writeWord a v).perform s = (.done, { s with bus := c })) ∧
    (∀ a v k, s.bus.write a (loByte v) = .error k →
      (HostOp.writeWord a v).perform s = (.error k, s)) ∧
    (∀ a v b k, s.bus.write a (loByte v) = .ok b → b.write (a + 1) (hiByte v) = .error k →
      (HostOp.writeWord a v).perform s = (.error k, { s with bus := b })) ∧
    -- over all of them
    ∀ op : HostOp,
      let t := (op.perform s).2
      t.imePending = s.imePending ∧ t.faulted = s.faulted ∧ t.cfg = s.cfg ∧
      ((∀ b, op ≠ .setHalted b) → t.halted = s.halted) ∧
      ((∀ b, op ≠ .setIme b) → t.ime = s.ime) ∧
      ((op.perform s).1 ≠ .done → (∀ a v, op ≠ .writeWord a v) → t = s) ∧
      (∀ k, (op.perform s).1 = .error k →
        (∃ dir x, k = .romAccessOutOfRange dir x ∨ k = .unimplementedRegion dir x) ∧
        ((∃ a, op = .readByte a ∨ op = .readWord a) ∨ ∃ a, (∃ v, op = .writeByte a v) ∨
          ∃ v, op = .writeWord a v))

/-- R102, over every run: from every state that meets the invariant and has not faulted, whatever steps
and collaborator operations the caller chooses and whatever end it states, the run stops in a state
that meets the invariant, or in a fatal condition that a step raised in such a state; and every launch
whose image loads begins in such a state.
The invariant's form of the memory list is assumption log 8, `cfg` is state by log 2, and the fault
carries the `Faulted` state by log 4 (the model's choices). -/
def Obligations.RunKeepsInvariant : Prop :=
  (∀ (cfg : Config) (mbc : MbcVariant) (init : InitMem) (image : List Byte) (s : State),
    (∀ c ∈ init.cells, hasCell c.1 = true) → launch cfg mbc init image = .ok s →
    s.Inv ∧ Running s ∧ s.cfg = cfg) ∧
  (∀ (s : State) (acts : List RunAct) (e : EndCondition), s.Inv → s.faulted = false →
    (∀ t, runTo acts e s = .met t ∨ runTo acts e s = .notMet t →
      t.Inv ∧ t.faulted = false ∧ t.cfg = s.cfg) ∧
    (∀ r, runTo acts e s = .faulted r → ∃ k t, r = .fatal k t ∧ t.Inv ∧ t.status = .faulted) ∧
    (∀ r, runTo acts e s ≠ .refused r))

/-- R102: where a run ends. With a step count, right after that many completed steps, whatever the
collaborator does between them; with a fetch address, at the first step that would fetch there, which
is not executed (the model's reading, assumption log 13); and a run of steps alone is the step applied
so many times. -/
def Obligations.RunEndsWhereStated : Prop :=
  (∀ (n : Nat) (acts : List RunAct) (s t : State), runTo acts (.afterSteps n) s = .met t ↔
    ∃ before after, acts = before ++ after ∧ before.count .step = n ∧
      (before = [] ∨ before.getLast? = some .step) ∧ runActs before s = .next t) ∧
  (∀ (a : Word) (acts : List RunAct) (s t : State), runTo acts (.atFetch a) s = .met t ↔
    ∃ before after, acts = before ++ .step :: after ∧ runActs before s = .next t ∧
      t.faulted = false ∧ t.halted = false ∧ t.pc = a ∧
      ∀ p q u, before = p ++ .step :: q → runActs p s = .next u →
        ¬(u.faulted = false ∧ u.halted = false ∧ u.pc = a)) ∧
  (∀ (n : Nat) (s : State), runActs (List.replicate n .step) s = Sys2Proof.core.run n s)
end

