-- ==== Sys2Proof/Laws/Flags.lean ====
section
/-! SUPPORT. The laws of the flag bits of F (10_state.md R24), and that no ALU primitive touches bits 3..0
of F (41_alu.md R110). -/

namespace Sys2Proof.Machine

/-- The part of F no flag lies in. -/
abbrev lowF (f : Byte) : Byte := f &&& 0x0F#8

@[simp] theorem getFlag_putFlag_same (f : Byte) (k : Flag) (b : Bool) :
    getFlag (putFlag f k b) k = b := by
  cases k <;> cases b <;> simp [getFlag, putFlag, flagBit]

theorem getFlag_putFlag_other (f : Byte) {k j : Flag} (b : Bool) (h : j ≠ k) :
    getFlag (putFlag f k b) j = getFlag f j := by
  cases k <;> cases j <;> cases b <;> first | contradiction | simp [getFlag, putFlag, flagBit]

@[simp] theorem getFlag_putFlag (f : Byte) (k j : Flag) (b : Bool) :
    getFlag (putFlag f k b) j = if j = k then b else getFlag f j := by
  split
  · next h => rw [h, getFlag_putFlag_same]
  · next h => exact getFlag_putFlag_other f b h

@[simp] theorem getFlag_putFlags (f : Byte) (z n h c : Bool) (k : Flag) :
    getFlag (putFlags f z n h c) k =
      match k with
      | .z => z
      | .n => n
      | .h => h
      | .c => c := by
  cases k <;> simp [putFlags]

@[simp] theorem lowF_putFlag (f : Byte) (k : Flag) (b : Bool) : lowF (putFlag f k b) = lowF f := by
  unfold lowF putFlag
  split
  · rw [BitVec.and_or_distrib_right]
    cases k <;> simp [flagBit]
  · rw [BitVec.and_assoc]
    cases k <;> simp [flagBit]

@[simp] theorem lowF_putFlags (f : Byte) (z n h c : Bool) : lowF (putFlags f z n h c) = lowF f := by
  simp only [putFlags, lowF_putFlag]

@[simp] theorem lowF_maskF (v : Byte) : lowF (maskF v) = 0#8 := by
  simp [lowF, maskF, BitVec.and_assoc]

@[simp] theorem getFlag_maskF (v : Byte) (k : Flag) : getFlag (maskF v) k = getFlag v k := by
  cases k <;> simp [getFlag, maskF, flagBit]

/-- F is determined by its four flags and its low nibble. -/
theorem f_ext {f g : Byte} (hlow : lowF f = lowF g) (hflag : ∀ k, getFlag f k = getFlag g k) :
    f = g := by
  apply BitVec.eq_of_getLsbD_eq
  intro i hi
  have low : ∀ j, j < 4 → f.getLsbD j = g.getLsbD j := by
    intro j hj
    have := congrArg (fun v => v.getLsbD j) hlow
    have hm : (0x0F#8).getLsbD j = true := by
      match j, hj with
      | 0, _ => rfl
      | 1, _ => rfl
      | 2, _ => rfl
      | 3, _ => rfl
    simpa [lowF, BitVec.getLsbD_and, hm] using this
  match i, hi with
  | 0, _ => exact low 0 (by decide)
  | 1, _ => exact low 1 (by decide)
  | 2, _ => exact low 2 (by decide)
  | 3, _ => exact low 3 (by decide)
  | 4, _ => exact hflag .c
  | 5, _ => exact hflag .h
  | 6, _ => exact hflag .n
  | 7, _ => exact hflag .z

section
variable (f x y : Byte)

@[simp] theorem lowF_addBytes (c : Bool) : lowF (addBytes f x y c).2 = lowF f := lowF_putFlags ..
@[simp] theorem lowF_subBytes (r : SbcHRule) (c : Bool) : lowF (subBytes r f x y c).2 = lowF f :=
  lowF_putFlags ..
@[simp] theorem lowF_incByte : lowF (incByte f x).2 = lowF f := by simp [incByte]
@[simp] theorem lowF_decByte : lowF (decByte f x).2 = lowF f := by simp [decByte]
@[simp] theorem lowF_andBytes : lowF (andBytes f x y).2 = lowF f := lowF_putFlags ..
@[simp] theorem lowF_orBytes : lowF (orBytes f x y).2 = lowF f := lowF_putFlags ..
@[simp] theorem lowF_xorBytes : lowF (xorBytes f x y).2 = lowF f := lowF_putFlags ..
@[simp] theorem lowF_addWords (v w : Word) : lowF (addWords f v w).2 = lowF f := by
  simp only [addWords, lowF_putFlag, lowF_addBytes]
@[simp] theorem lowF_spPlusE8 (v : Word) (n : Byte) : lowF (spPlusE8 f v n).2 = lowF f :=
  lowF_putFlags ..
@[simp] theorem lowF_shiftResult (b : Bool) : lowF (shiftResult f x b).2 = lowF f :=
  lowF_putFlags ..
@[simp] theorem lowF_rotate (op : RotOp) : lowF (rotate op f x).2 = lowF f := by
  cases op <;> exact lowF_putFlags ..
@[simp] theorem lowF_bitTest (b : Fin 8) : lowF (bitTest f b x) = lowF f := by simp [bitTest]
@[simp] theorem lowF_daa : lowF (daa f x).2 = lowF f := by simp [daa]
@[simp] theorem lowF_cpl : lowF (cpl f x).2 = lowF f := by simp [cpl]
@[simp] theorem lowF_scf : lowF (scf f) = lowF f := by simp [scf]
@[simp] theorem lowF_ccf : lowF (ccf f) = lowF f := by simp [ccf]
end

end Sys2Proof.Machine
end

