-- ==== Sys2Proof/Laws/Arith.lean ====
section
/-! SUPPORT. The byte helpers and the two byte adders on numbers (00_scope.md R7-R9; 41_alu.md R111,
R113): the bit tests on the 16-bit accumulator said as comparisons. -/

namespace Sys2Proof.Machine

theorem wordOf_toNat (h l : Byte) : (wordOf h l).toNat = h.toNat * 256 + l.toNat := by
  have h1 := h.isLt
  have h2 := l.isLt
  unfold wordOf
  rw [BitVec.toNat_or]
  simp only [BitVec.truncate_eq_setWidth, BitVec.toNat_shiftLeft, BitVec.toNat_setWidth]
  rw [Nat.mod_eq_of_lt (by omega), Nat.mod_eq_of_lt (b := 2 ^ 16) (a := l.toNat) (by omega),
    Nat.shiftLeft_eq, Nat.mod_eq_of_lt (by omega), Nat.mul_comm,
    ← Nat.two_pow_add_eq_or_of_lt (i := 8) (by omega)]

/-- An offset added to an address is the signed sum, wrapped (R9, R74). -/
theorem relTarget_eq (w : Word) (n : Byte) :
    relTarget w n = BitVec.ofInt 16 (w.toNat + n.toInt) := by
  rw [BitVec.ofInt_add]
  simp [relTarget, sext16, BitVec.signExtend]

theorem pageAddr_eq (n : Byte) : pageAddr n = BitVec.ofNat 16 (0xFF00 + n.toNat) := by
  have := n.isLt
  apply BitVec.eq_of_toNat_eq
  simp [pageAddr]

/-- A masked bit is nonzero exactly when the bit is set. -/
theorem and_twoPow_ne_zero (w : Word) {k : Nat} (hk : k < 16) :
    (w &&& BitVec.twoPow 16 k) ≠ 0#16 ↔ w.getLsbD k = true := by
  rw [BitVec.and_twoPow]
  split
  · next h =>
    simp only [h, iff_true]
    intro h2
    have h3 := congrArg (fun v => v.getLsbD k) h2
    simp [hk] at h3
  · next h => simp [h]

/-- The accumulator of `add_bytes`: the sum, the carry out of bit 7, the carry out of bit 3. -/
theorem add_accumulator (x y : Byte) (c : Bool) :
    let r := x.zeroExtend 16 + y.zeroExtend 16 + carryWord c
    (loByte r).toNat = (x.toNat + y.toNat + c.toNat) % 256 ∧
    decide ((r &&& 0x100#16) ≠ 0#16) = decide (x.toNat + y.toNat + c.toNat > 255) ∧
    decide (((x.zeroExtend 16 ^^^ y.zeroExtend 16 ^^^ r) &&& 0x10#16) ≠ 0#16) =
      decide (x.toNat % 16 + y.toNat % 16 + c.toNat > 15) := by
  intro r
  have hx := x.isLt
  have hy := y.isLt
  have hc : c.toNat ≤ 1 := by cases c <;> simp
  have hr : r.toNat = x.toNat + y.toNat + c.toNat := by
    cases c <;> simp [r, carryWord] <;> omega
  refine ⟨by simp [loByte, hr], ?_, ?_⟩
  · rw [decide_eq_decide, ← show BitVec.twoPow 16 8 = 0x100#16 from rfl,
      and_twoPow_ne_zero r (by omega), BitVec.getLsbD, hr, Nat.testBit]
    simp only [Nat.shiftRight_eq_div_pow, Nat.one_and_eq_mod_two]
    simp
    omega
  · rw [decide_eq_decide, ← show BitVec.twoPow 16 4 = 0x10#16 from rfl,
      and_twoPow_ne_zero _ (by omega)]
    have bit4 : ∀ n : Nat, n.testBit 4 = decide (n / 16 % 2 = 1) := by
      intro n
      rw [Nat.testBit]
      simp [Nat.shiftRight_eq_div_pow]
      rfl
    simp only [BitVec.getLsbD_xor, BitVec.truncate_eq_setWidth]
    simp only [BitVec.getLsbD, hr, BitVec.toNat_setWidth, bit4]
    rw [Nat.mod_eq_of_lt (a := x.toNat) (b := 2 ^ 16) (by omega),
      Nat.mod_eq_of_lt (a := y.toNat) (b := 2 ^ 16) (by omega)]
    clear * - hx hy hc
    by_cases h1 : x.toNat / 16 % 2 = 1 <;> by_cases h2 : y.toNat / 16 % 2 = 1 <;>
      by_cases h3 : (x.toNat + y.toNat + c.toNat) / 16 % 2 = 1 <;>
      simp only [h1, h2, h3, decide_true, decide_false, Bool.xor_true, Bool.xor_false,
        Bool.not_true, Bool.not_false, true_iff, false_iff, Bool.false_eq_true] <;> omega

/-- The accumulator of `sub_bytes`: the difference, and the borrow. -/
theorem sub_accumulator (x y : Byte) (c : Bool) :
    let r := x.zeroExtend 16 - (y.zeroExtend 16 + carryWord c)
    (loByte r).toNat = (x.toNat + 256 - (y.toNat + c.toNat) % 256) % 256 ∧
    decide ((r &&& 0x100#16) ≠ 0#16) = decide (y.toNat + c.toNat > x.toNat) := by
  intro r
  have hx := x.isLt
  have hy := y.isLt
  have hc : c.toNat ≤ 1 := by cases c <;> simp
  have hr : r.toNat = (65536 + x.toNat - (y.toNat + c.toNat)) % 65536 := by
    cases c <;> simp [r, carryWord, BitVec.toNat_sub] <;> omega
  refine ⟨?_, ?_⟩
  · simp only [loByte, BitVec.extractLsb'_toNat, hr, Nat.shiftRight_zero]
    omega
  · rw [decide_eq_decide, ← show BitVec.twoPow 16 8 = 0x100#16 from rfl,
      and_twoPow_ne_zero r (by omega), BitVec.getLsbD, hr, Nat.testBit]
    simp only [Nat.shiftRight_eq_div_pow, Nat.one_and_eq_mod_two]
    simp
    omega

end Sys2Proof.Machine
end

