-- ==== Sys2Proof/Laws/Memory.lean ====
section
/-! SUPPORT. The laws of the memory list: reading after writing, and that every operation keeps the
canonical form and the set of backed locations. -/

namespace Sys2Proof.Machine

@[simp] theorem Memory.read_nil (a : Nat) : Memory.read [] a = Config.unlistedByte := rfl

@[simp] theorem Memory.read_cons (c : Host.Cell) (m : Memory) (a : Nat) :
    Memory.read (c :: m) a = if c.1 = a then c.2 else Memory.read m a := rfl

theorem Memory.read_erase_same (m : Memory) (a : Nat) :
    Memory.read (m.erase a) a = Config.unlistedByte := by
  induction m with
  | nil => rfl
  | cons c m ih =>
    by_cases h : c.1 = a <;> simp_all [Memory.erase]

theorem Memory.read_erase_other (m : Memory) {a b : Nat} (h : b ≠ a) :
    Memory.read (m.erase a) b = m.read b := by
  induction m with
  | nil => rfl
  | cons c m ih =>
    by_cases hc : c.1 = a
    · have : c.1 ≠ b := by omega
      simp_all [Memory.erase]
    · simp_all [Memory.erase]

theorem Memory.read_insert_other (m : Memory) {a b : Nat} (v : Byte) (h : b ≠ a) :
    Memory.read (m.insert a v) b = m.read b := by
  induction m with
  | nil => simp [Memory.insert, Ne.symm h]
  | cons c m ih =>
    rw [Memory.insert]
    split
    · simp [Ne.symm h]
    · simp [ih]

theorem Memory.read_insert_same (m : Memory) (a : Nat) (v : Byte) (h : ∀ c ∈ m, c.1 ≠ a) :
    Memory.read (m.insert a v) a = v := by
  induction m with
  | nil => simp [Memory.insert]
  | cons c m ih =>
    rw [Memory.insert]
    split
    · simp
    · simp [h c (by simp), ih (fun c hc => h c (by simp [hc]))]

theorem Memory.ne_of_mem_erase {m : Memory} {a : Nat} {c : Host.Cell} (h : c ∈ m.erase a) :
    c.1 ≠ a := by
  simpa [Memory.erase] using (List.mem_filter.1 h).2

theorem Memory.mem_of_mem_erase {m : Memory} {a : Nat} {c : Host.Cell} (h : c ∈ m.erase a) :
    c ∈ m := (List.mem_filter.1 h).1

theorem Memory.mem_insert {m : Memory} {a : Nat} {v : Byte} {c : Host.Cell}
    (h : c ∈ m.insert a v) : c = (a, v) ∨ c ∈ m := by
  induction m with
  | nil => simpa [Memory.insert] using h
  | cons d m ih =>
    rw [Memory.insert] at h
    split at h
    · simpa using h
    · rcases List.mem_cons.1 h with h | h
      · exact .inr (by simp [h])
      · exact (ih h).imp id (fun h => by simp [h])

/-- A read after a write to the same location gives the byte written. -/
@[simp] theorem Memory.read_write_same (m : Memory) (a : Nat) (v : Byte) :
    (m.write a v).read a = v := by
  unfold Memory.write
  split
  · next h => rw [Memory.read_erase_same, h]
  · exact Memory.read_insert_same _ _ _ (fun _ => Memory.ne_of_mem_erase)

/-- A write leaves every other location alone. -/
theorem Memory.read_write_other (m : Memory) {a b : Nat} (v : Byte) (h : b ≠ a) :
    (m.write a v).read b = m.read b := by
  unfold Memory.write
  split
  · exact Memory.read_erase_other m h
  · rw [Memory.read_insert_other _ v h, Memory.read_erase_other m h]

theorem Memory.erase_wf {m : Memory} (a : Nat) (h : m.wf) : (m.erase a).wf :=
  ⟨h.1.filter _, fun c hc => h.2 c (Memory.mem_of_mem_erase hc)⟩

theorem Memory.insert_wf {m : Memory} {a : Nat} {v : Byte} (h : m.wf)
    (ha : ∀ c ∈ m, c.1 ≠ a) (hv : v ≠ Config.unlistedByte) : (m.insert a v).wf := by
  refine ⟨?_, fun c hc => (Memory.mem_insert hc).elim (fun e => by simpa [e] using hv) (h.2 c)⟩
  obtain ⟨hs, -⟩ := h
  induction m with
  | nil => simp [Memory.insert]
  | cons d m ih =>
    obtain ⟨hd, hm⟩ := List.pairwise_cons.1 hs
    have hda : d.1 ≠ a := ha d (by simp)
    rw [Memory.insert]
    split
    · next hlt =>
      refine List.pairwise_cons.2 ⟨fun c hc => ?_, hs⟩
      rcases List.mem_cons.1 hc with rfl | hc
      · exact hlt
      · exact lt_trans hlt (hd c hc)
    · next hge =>
      refine List.pairwise_cons.2 ⟨fun c hc => ?_, ih (fun c hc => ha c (by simp [hc])) hm⟩
      rcases Memory.mem_insert hc with rfl | hc
      · show d.1 < a
        omega
      · exact hd c hc

/-- Every write keeps the canonical form. -/
theorem Memory.write_wf {m : Memory} (a : Nat) (v : Byte) (h : m.wf) : (m.write a v).wf := by
  unfold Memory.write
  split
  · exact Memory.erase_wf a h
  · next hv => exact Memory.insert_wf (Memory.erase_wf a h) (fun _ => Memory.ne_of_mem_erase) hv

theorem Memory.nil_wf : Memory.wf [] := ⟨List.Pairwise.nil, by simp⟩

/-- What `INIT_MEM` builds is in canonical form. -/
theorem Memory.ofCells_wf (cells : List Host.Cell) : (Memory.ofCells cells).wf := by
  have : ∀ m : Memory, m.wf → (cells.foldl (fun m c => Memory.write m c.1 c.2) m).wf := by
    induction cells with
    | nil => exact fun m h => h
    | cons c cs ih => exact fun m h => ih _ (Memory.write_wf _ _ h)
  exact this [] Memory.nil_wf

/-- The memory after reset is in canonical form. -/
theorem State.reset_mem_wf : State.reset.bus.mem.wf := Memory.ofCells_wf []

/-- A write adds no location beside its own. -/
theorem Memory.mem_write {m : Memory} {a : Nat} {v : Byte} {c : Host.Cell} (h : c ∈ m.write a v) :
    c.1 = a ∨ c ∈ m := by
  unfold Memory.write at h
  split at h
  · exact .inr (Memory.mem_of_mem_erase h)
  · rcases Memory.mem_insert h with rfl | h
    · exact .inl rfl
    · exact .inr (Memory.mem_of_mem_erase h)

end Sys2Proof.Machine
end

