-- ==== Sys2Proof/Laws/Bus.lean ====
section
/-! SUPPORT. What the bus can do, said once: which accesses complete, what a completed write leaves, and
what it keeps (20_memory.md R40-R51, R58). -/

namespace Sys2Proof.Machine

/-- The region of an address, as ranges. -/
theorem region_cases (a : Word) :
    (region a = .rom ∧ a.toNat ≤ 0x7FFF) ∨
    (region a = .vram ∧ 0x8000 ≤ a.toNat ∧ a.toNat ≤ 0x9FFF) ∨
    (region a = .cartRam ∧ 0xA000 ≤ a.toNat ∧ a.toNat ≤ 0xBFFF) ∨
    (region a = .wram ∧ 0xC000 ≤ a.toNat ∧ a.toNat ≤ 0xDFFF) ∨
    (region a = .echo ∧ 0xE000 ≤ a.toNat ∧ a.toNat ≤ 0xFDFF) ∨
    (region a = .oam ∧ 0xFE00 ≤ a.toNat ∧ a.toNat ≤ 0xFE9F) ∨
    (region a = .unusable ∧ 0xFEA0 ≤ a.toNat ∧ a.toNat ≤ 0xFEFF) ∨
    (region a = .io ∧ 0xFF00 ≤ a.toNat ∧ a.toNat ≤ 0xFF7F) ∨
    (region a = .hram ∧ 0xFF80 ≤ a.toNat ∧ a.toNat ≤ 0xFFFE) ∨
    (region a = .ie ∧ a.toNat = 0xFFFF) := by
  have := a.isLt
  simp only [region]
  split_ifs <;> simp <;> omega

theorem location_echo {a : Word} (h : region a = .echo) : location a = a.toNat - 0x2000 := by
  simp [location, h]

theorem location_of_ne_echo {a : Word} (h : region a ≠ .echo) : location a = a.toNat := by
  unfold location
  split
  · contradiction
  · rfl

/-- Storage behind the bus is `hasCell` of the location. -/
theorem hasCell_location {a : Word}
    (h : region a = .rom ∨ region a = .wram ∨ region a = .echo ∨ region a = .io) :
    hasCell (location a) = true := by
  have := region_cases a
  by_cases he : region a = .echo
  · rw [location_echo he]
    simp only [he, reduceCtorEq, false_and, true_and, false_or, or_false] at this
    simp only [hasCell, Bool.or_eq_true, Bool.and_eq_true, decide_eq_true_eq]
    omega
  · rw [location_of_ne_echo he]
    simp only [hasCell, Bool.or_eq_true, Bool.and_eq_true, decide_eq_true_eq]
    rcases h with h | h | h | h
    case inr.inr.inl => exact absurd h he
    all_goals
      simp only [h, reduceCtorEq, false_and, true_and, false_or, or_false] at this
      omega

/-- Under `MbcNone`, which addresses the bank controller takes. -/
theorem mbcRead_rom {a : Word} (mbc : MbcVariant) (m : Memory) (h : region a = .rom) :
    mbcReadByte mbc m a = some (m.read a.toNat) := by
  have := region_cases a
  simp only [h, reduceCtorEq, false_and, true_and, or_false] at this
  cases mbc
  simp [mbcReadByte]
  omega

theorem mbcWrite_rom {a : Word} (mbc : MbcVariant) (m : Memory) (v : Byte) (h : region a = .rom) :
    mbcWriteByte mbc m a v = some (m.write a.toNat v) := by
  have := region_cases a
  simp only [h, reduceCtorEq, false_and, true_and, or_false] at this
  cases mbc
  simp [mbcWriteByte]
  omega

theorem mbcRead_cartRam {a : Word} (mbc : MbcVariant) (m : Memory) (h : region a = .cartRam) :
    mbcReadByte mbc m a = none := by
  have := region_cases a
  simp only [h, reduceCtorEq, false_and, true_and, false_or, or_false] at this
  cases mbc
  simp [mbcReadByte]
  omega

theorem mbcWrite_cartRam {a : Word} (mbc : MbcVariant) (m : Memory) (v : Byte)
    (h : region a = .cartRam) : mbcWriteByte mbc m a v = none := by
  have := region_cases a
  simp only [h, reduceCtorEq, false_and, true_and, false_or, or_false] at this
  cases mbc
  simp [mbcWriteByte]
  omega

/-- The whole of a bus read, by region. -/
theorem Bus.read_eq (b : Bus) (a : Word) :
    b.read a = match region a with
      | .rom | .wram | .echo | .io => .ok (b.mem.read (location a))
      | .unusable => .ok 0x00#8
      | .ie => .ok (ieByte b.ie)
      | .cartRam => .error (.romAccessOutOfRange .read a)
      | .vram | .oam | .hram => .error (.unimplementedRegion .read a) := by
  unfold Bus.read
  cases h : region a <;> simp [h, mbcRead_rom, mbcRead_cartRam, location_of_ne_echo]

/-- The whole of a bus write, by region. -/
theorem Bus.write_eq (b : Bus) (a : Word) (v : Byte) :
    b.write a v = match region a with
      | .rom | .wram | .echo | .io => .ok { b with mem := b.mem.write (location a) v }
      | .unusable => .ok b
      | .ie => .ok { b with ie := v.getLsbD 0 }
      | .cartRam => .error (.romAccessOutOfRange .write a)
      | .vram | .oam | .hram => .error (.unimplementedRegion .write a) := by
  unfold Bus.write
  cases h : region a <;> simp [h, mbcWrite_rom, mbcWrite_cartRam, location_of_ne_echo]

/-- A read of an accessible address completes. -/
theorem Bus.read_accessible (b : Bus) {a : Word} (h : accessible a = true) :
    ∃ v, b.read a = .ok v := by
  rw [Bus.read_eq]
  unfold accessible at h
  cases hr : region a <;> simp_all

/-- A write to an accessible address completes. -/
theorem Bus.write_accessible (b : Bus) {a : Word} (v : Byte) (h : accessible a = true) :
    ∃ b', b.write a v = .ok b' := by
  rw [Bus.write_eq]
  unfold accessible at h
  cases hr : region a <;> simp_all

theorem Bus.read_ok_accessible {b : Bus} {a : Word} {v : Byte} (h : b.read a = .ok v) :
    accessible a = true := by
  rw [Bus.read_eq] at h
  unfold accessible
  cases hr : region a <;> simp_all

theorem Bus.write_ok_accessible {b b' : Bus} {a : Word} {v : Byte} (h : b.write a v = .ok b') :
    accessible a = true := by
  rw [Bus.write_eq] at h
  unfold accessible
  cases hr : region a <;> simp_all

/-- What a read gives after a completed write to the same address. -/
theorem Bus.read_write_same {b b' : Bus} {a : Word} {v : Byte} (h : b.write a v = .ok b') :
    b'.read a = .ok (storedByte a v) := by
  rw [Bus.write_eq] at h
  rw [Bus.read_eq]
  unfold storedByte
  cases hr : region a <;> simp only [hr, Except.ok.injEq, reduceCtorEq] at h <;> subst h <;> simp

/-- A completed write leaves every other location as it was (R58). -/
theorem Bus.read_write_other {b b' : Bus} {a c : Word} {v : Byte} (h : b.write a v = .ok b')
    (hc : location c ≠ location a) : b'.read c = b.read c := by
  rw [Bus.write_eq] at h
  rw [Bus.read_eq, Bus.read_eq]
  have hie : region c = .ie → region a ≠ .ie := by
    intro h1 h2
    have e1 := region_cases c
    have e2 := region_cases a
    simp only [h1, h2, reduceCtorEq, false_and, true_and, false_or] at e1 e2
    rw [location_of_ne_echo (by simp [h1]), location_of_ne_echo (by simp [h2])] at hc
    omega
  cases hr : region a <;> simp only [hr, Except.ok.injEq, reduceCtorEq] at h <;> subst h <;>
    cases hrc : region c <;> simp_all [Memory.read_write_other]

/-- A completed write keeps the memory's canonical form. -/
theorem Bus.write_wf {b b' : Bus} {a : Word} {v : Byte} (h : b.write a v = .ok b')
    (hb : b.mem.wf) : b'.mem.wf := by
  rw [Bus.write_eq] at h
  cases hr : region a <;> simp only [hr, Except.ok.injEq, reduceCtorEq] at h <;> subst h <;>
    first | exact hb | exact Memory.write_wf _ _ hb

/-- A completed write puts bytes only where the block has storage (R32). -/
theorem Bus.write_backed {b b' : Bus} {a : Word} {v : Byte} (h : b.write a v = .ok b')
    (hb : ∀ c ∈ b.mem, hasCell c.1 = true) : ∀ c ∈ b'.mem, hasCell c.1 = true := by
  rw [Bus.write_eq] at h
  cases hr : region a <;> simp only [hr, Except.ok.injEq, reduceCtorEq] at h <;> subst h <;>
    first
    | exact hb
    | exact fun c hc => (Memory.mem_write hc).elim
        (fun e => e ▸ hasCell_location (by simp [hr])) (hb c)

end Sys2Proof.Machine
end

