-- ==== Sys2Proof/Laws/State.lean ====
section
/-! SUPPORT. One lemma per field per update of the state, and the register file's read-after-write laws,
so that no later proof unfolds a record update. -/

namespace Sys2Proof.Machine

variable (s : State)

/-! ### set_r8 -/

@[simp] theorem State.setR8_sp (r : R8) (v : Byte) : (s.setR8 r v).sp = s.sp := by cases r <;> rfl
@[simp] theorem State.setR8_pc (r : R8) (v : Byte) : (s.setR8 r v).pc = s.pc := by cases r <;> rfl
@[simp] theorem State.setR8_halted (r : R8) (v : Byte) : (s.setR8 r v).halted = s.halted := by
  cases r <;> rfl
@[simp] theorem State.setR8_ime (r : R8) (v : Byte) : (s.setR8 r v).ime = s.ime := by cases r <;> rfl
@[simp] theorem State.setR8_imePending (r : R8) (v : Byte) :
    (s.setR8 r v).imePending = s.imePending := by cases r <;> rfl
@[simp] theorem State.setR8_faulted (r : R8) (v : Byte) : (s.setR8 r v).faulted = s.faulted := by
  cases r <;> rfl
@[simp] theorem State.setR8_bus (r : R8) (v : Byte) : (s.setR8 r v).bus = s.bus := by cases r <;> rfl
@[simp] theorem State.setR8_cfg (r : R8) (v : Byte) : (s.setR8 r v).cfg = s.cfg := by cases r <;> rfl

/-- What `set_r8` stores: a write to F is masked (R21). -/
def maskedFor (r : R8) (v : Byte) : Byte := if r = .f then maskF v else v

@[simp] theorem State.getR8_setR8_same (r : R8) (v : Byte) :
    (s.setR8 r v).getR8 r = maskedFor r v := by cases r <;> rfl

theorem State.getR8_setR8_other {r q : R8} (v : Byte) (h : q ≠ r) :
    (s.setR8 r v).getR8 q = s.getR8 q := by
  cases r <;> cases q <;> first | rfl | contradiction

/-! ### register operands -/

theorem Reg.cell_ne_f (r : Reg) : r.cell ≠ .f := by cases r <;> decide

theorem Reg.cell_injective {r q : Reg} (h : r.cell = q.cell) : r = q := by
  cases r <;> cases q <;> first | rfl | cases h

@[simp] theorem State.reg_setReg_same (r : Reg) (v : Byte) : (s.setReg r v).reg r = v := by
  cases r <;> rfl

theorem State.reg_setReg_other {r q : Reg} (v : Byte) (h : q ≠ r) :
    (s.setReg r v).reg q = s.reg q := by
  cases r <;> cases q <;> first | rfl | contradiction

@[simp] theorem State.setReg_self (r : Reg) : s.setReg r (s.reg r) = s := by cases r <;> rfl

@[simp] theorem State.setReg_f (r : Reg) (v : Byte) : (s.setReg r v).f = s.f := by cases r <;> rfl
@[simp] theorem State.setReg_sp (r : Reg) (v : Byte) : (s.setReg r v).sp = s.sp := by cases r <;> rfl
@[simp] theorem State.setReg_pc (r : Reg) (v : Byte) : (s.setReg r v).pc = s.pc := by cases r <;> rfl
@[simp] theorem State.setReg_halted (r : Reg) (v : Byte) : (s.setReg r v).halted = s.halted := by
  cases r <;> rfl
@[simp] theorem State.setReg_ime (r : Reg) (v : Byte) : (s.setReg r v).ime = s.ime := by
  cases r <;> rfl
@[simp] theorem State.setReg_imePending (r : Reg) (v : Byte) :
    (s.setReg r v).imePending = s.imePending := by cases r <;> rfl
@[simp] theorem State.setReg_faulted (r : Reg) (v : Byte) : (s.setReg r v).faulted = s.faulted := by
  cases r <;> rfl
@[simp] theorem State.setReg_bus (r : Reg) (v : Byte) : (s.setReg r v).bus = s.bus := by
  cases r <;> rfl
@[simp] theorem State.setReg_cfg (r : Reg) (v : Byte) : (s.setReg r v).cfg = s.cfg := by
  cases r <;> rfl

/-! ### set_r16 -/

@[simp] theorem hiByte_wordOf (h l : Byte) : hiByte (wordOf h l) = h := by
  apply BitVec.eq_of_getLsbD_eq
  intro i hi
  have h1 : 8 + i < 16 := by omega
  simp [hiByte, wordOf, hi, h1]

@[simp] theorem loByte_wordOf (h l : Byte) : loByte (wordOf h l) = l := by
  apply BitVec.eq_of_getLsbD_eq
  intro i hi
  simp [loByte, wordOf, hi]
  omega

@[simp] theorem wordOf_hiByte_loByte (v : Word) : wordOf (hiByte v) (loByte v) = v := by
  apply BitVec.eq_of_getLsbD_eq
  intro i hi
  by_cases h : i < 8
  · simp [hiByte, loByte, wordOf, h, hi]
  · have h8 : i - 8 < 8 := by omega
    have e : 8 + (i - 8) = i := by omega
    simp [hiByte, loByte, wordOf, h, h8, e, hi]

/-- The pairs other than AF read back what was written (R22, R23). -/
theorem State.getR16_setR16_same {rr : R16} (v : Word) (h : rr ≠ .af) :
    (s.setR16 rr v).getR16 rr = v := by
  cases rr <;> simp [State.setR16, State.getR16] at h ⊢

@[simp] theorem State.setR16_af_a (v : Word) : (s.setR16 .af v).a = hiByte v := rfl
@[simp] theorem State.setR16_af_f (v : Word) : (s.setR16 .af v).f = maskF (loByte v) := rfl

@[simp] theorem State.setR16_halted (rr : R16) (v : Word) : (s.setR16 rr v).halted = s.halted := by
  cases rr <;> rfl
@[simp] theorem State.setR16_ime (rr : R16) (v : Word) : (s.setR16 rr v).ime = s.ime := by
  cases rr <;> rfl
@[simp] theorem State.setR16_imePending (rr : R16) (v : Word) :
    (s.setR16 rr v).imePending = s.imePending := by cases rr <;> rfl
@[simp] theorem State.setR16_faulted (rr : R16) (v : Word) : (s.setR16 rr v).faulted = s.faulted := by
  cases rr <;> rfl
@[simp] theorem State.setR16_bus (rr : R16) (v : Word) : (s.setR16 rr v).bus = s.bus := by
  cases rr <;> rfl
@[simp] theorem State.setR16_cfg (rr : R16) (v : Word) : (s.setR16 rr v).cfg = s.cfg := by
  cases rr <;> rfl

theorem State.setR16_f {rr : R16} (v : Word) (h : rr ≠ .af) : (s.setR16 rr v).f = s.f := by
  cases rr <;> first | rfl | contradiction

theorem State.setR16_pc {rr : R16} (v : Word) (h : rr ≠ .pc) : (s.setR16 rr v).pc = s.pc := by
  cases rr <;> first | rfl | contradiction

theorem State.setR16_sp {rr : R16} (v : Word) (h : rr ≠ .sp) : (s.setR16 rr v).sp = s.sp := by
  cases rr <;> first | rfl | contradiction

/-! ### x[HL] -/

@[simp] theorem State.setHL_hl (v : Word) : (s.setHL v).hl = v :=
  State.getR16_setR16_same s v (by decide)
@[simp] theorem State.setHL_a (v : Word) : (s.setHL v).a = s.a := rfl
@[simp] theorem State.setHL_f (v : Word) : (s.setHL v).f = s.f := rfl
@[simp] theorem State.setHL_b (v : Word) : (s.setHL v).b = s.b := rfl
@[simp] theorem State.setHL_c (v : Word) : (s.setHL v).c = s.c := rfl
@[simp] theorem State.setHL_d (v : Word) : (s.setHL v).d = s.d := rfl
@[simp] theorem State.setHL_e (v : Word) : (s.setHL v).e = s.e := rfl
@[simp] theorem State.setHL_h (v : Word) : (s.setHL v).h = hiByte v := rfl
@[simp] theorem State.setHL_l (v : Word) : (s.setHL v).l = loByte v := rfl
@[simp] theorem State.setHL_sp (v : Word) : (s.setHL v).sp = s.sp := rfl
@[simp] theorem State.setHL_pc (v : Word) : (s.setHL v).pc = s.pc := rfl
@[simp] theorem State.setHL_halted (v : Word) : (s.setHL v).halted = s.halted := rfl
@[simp] theorem State.setHL_ime (v : Word) : (s.setHL v).ime = s.ime := rfl
@[simp] theorem State.setHL_imePending (v : Word) : (s.setHL v).imePending = s.imePending := rfl
@[simp] theorem State.setHL_faulted (v : Word) : (s.setHL v).faulted = s.faulted := rfl
@[simp] theorem State.setHL_bus (v : Word) : (s.setHL v).bus = s.bus := rfl
@[simp] theorem State.setHL_cfg (v : Word) : (s.setHL v).cfg = s.cfg := rfl

/-! ### accumulator and F together, a taken relative branch, the engine flags -/

@[simp] theorem State.setAcc_a (r : Byte × Byte) : (s.setAcc r).a = r.1 := rfl
@[simp] theorem State.setAcc_f (r : Byte × Byte) : (s.setAcc r).f = r.2 := rfl
@[simp] theorem State.setAcc_b (r : Byte × Byte) : (s.setAcc r).b = s.b := rfl
@[simp] theorem State.setAcc_c (r : Byte × Byte) : (s.setAcc r).c = s.c := rfl
@[simp] theorem State.setAcc_d (r : Byte × Byte) : (s.setAcc r).d = s.d := rfl
@[simp] theorem State.setAcc_e (r : Byte × Byte) : (s.setAcc r).e = s.e := rfl
@[simp] theorem State.setAcc_h (r : Byte × Byte) : (s.setAcc r).h = s.h := rfl
@[simp] theorem State.setAcc_l (r : Byte × Byte) : (s.setAcc r).l = s.l := rfl
@[simp] theorem State.setAcc_sp (r : Byte × Byte) : (s.setAcc r).sp = s.sp := rfl
@[simp] theorem State.setAcc_pc (r : Byte × Byte) : (s.setAcc r).pc = s.pc := rfl
@[simp] theorem State.setAcc_halted (r : Byte × Byte) : (s.setAcc r).halted = s.halted := rfl
@[simp] theorem State.setAcc_ime (r : Byte × Byte) : (s.setAcc r).ime = s.ime := rfl
@[simp] theorem State.setAcc_imePending (r : Byte × Byte) :
    (s.setAcc r).imePending = s.imePending := rfl
@[simp] theorem State.setAcc_faulted (r : Byte × Byte) : (s.setAcc r).faulted = s.faulted := rfl
@[simp] theorem State.setAcc_bus (r : Byte × Byte) : (s.setAcc r).bus = s.bus := rfl
@[simp] theorem State.setAcc_cfg (r : Byte × Byte) : (s.setAcc r).cfg = s.cfg := rfl

@[simp] theorem State.jumpRel_pc (n : Byte) : (s.jumpRel n).pc = s.pc + n.signExtend 16 := rfl
@[simp] theorem State.jumpRel_f (n : Byte) : (s.jumpRel n).f = s.f := rfl
@[simp] theorem State.jumpRel_sp (n : Byte) : (s.jumpRel n).sp = s.sp := rfl
@[simp] theorem State.jumpRel_reg (n : Byte) (r : Reg) : (s.jumpRel n).reg r = s.reg r := by
  cases r <;> rfl
@[simp] theorem State.jumpRel_halted (n : Byte) : (s.jumpRel n).halted = s.halted := rfl
@[simp] theorem State.jumpRel_ime (n : Byte) : (s.jumpRel n).ime = s.ime := rfl
@[simp] theorem State.jumpRel_imePending (n : Byte) : (s.jumpRel n).imePending = s.imePending := rfl
@[simp] theorem State.jumpRel_faulted (n : Byte) : (s.jumpRel n).faulted = s.faulted := rfl
@[simp] theorem State.jumpRel_bus (n : Byte) : (s.jumpRel n).bus = s.bus := rfl
@[simp] theorem State.jumpRel_cfg (n : Byte) : (s.jumpRel n).cfg = s.cfg := rfl

@[simp] theorem State.enterFaulted_faulted : s.enterFaulted.faulted = true := rfl
@[simp] theorem State.enterFaulted_f : s.enterFaulted.f = s.f := rfl
@[simp] theorem State.enterFaulted_sp : s.enterFaulted.sp = s.sp := rfl
@[simp] theorem State.enterFaulted_pc : s.enterFaulted.pc = s.pc := rfl
@[simp] theorem State.enterFaulted_reg (r : Reg) : s.enterFaulted.reg r = s.reg r := by cases r <;> rfl
@[simp] theorem State.enterFaulted_halted : s.enterFaulted.halted = s.halted := rfl
@[simp] theorem State.enterFaulted_ime : s.enterFaulted.ime = s.ime := rfl
@[simp] theorem State.enterFaulted_imePending : s.enterFaulted.imePending = s.imePending := rfl
@[simp] theorem State.enterFaulted_bus : s.enterFaulted.bus = s.bus := rfl
@[simp] theorem State.enterFaulted_cfg : s.enterFaulted.cfg = s.cfg := rfl

/-! ### the collaborator's writers -/

@[simp] theorem State.setHalted_halted (b : Bool) : (s.setHalted b).halted = b := rfl
@[simp] theorem State.setHalted_bus (b : Bool) : (s.setHalted b).bus = s.bus := rfl
@[simp] theorem State.setIme_ime (b : Bool) : (s.setIme b).ime = b := rfl
@[simp] theorem State.setIme_bus (b : Bool) : (s.setIme b).bus = s.bus := rfl

end Sys2Proof.Machine
end

