-- ==== Sys2Proof/Laws/Ops.lean ====
section
/-! SUPPORT. What each shared operation can do, said once: when it completes and with what state, and,
when it raises, in which state. Later proofs cite these and unfold no operation. -/

namespace Sys2Proof.Machine

section Exec
variable {α β : Type}

@[simp] theorem Exec.ok_bind (x : α) (f : α → Exec β) : ((Except.ok x : Exec α) >>= f) = f x := rfl

@[simp] theorem Exec.error_bind (e : Fatal × State) (f : α → Exec β) :
    ((Except.error e : Exec α) >>= f) = .error e := rfl

@[simp] theorem Exec.pure_eq (x : α) : (pure x : Exec α) = .ok x := rfl

/-- A sequence completes when both parts do. -/
theorem Exec.bind_eq_ok {x : Exec α} {f : α → Exec β} {b : β} (h : (x >>= f) = .ok b) :
    ∃ a, x = .ok a ∧ f a = .ok b := by
  cases x with
  | ok a => exact ⟨a, rfl, h⟩
  | error e => cases h

/-- A sequence raises where its first or its second part does. -/
theorem Exec.bind_eq_error {x : Exec α} {f : α → Exec β} {e : Fatal × State}
    (h : (x >>= f) = .error e) : x = .error e ∨ ∃ a, x = .ok a ∧ f a = .error e := by
  cases x with
  | ok a => exact .inr ⟨a, rfl, h⟩
  | error e' =>
    rw [Exec.error_bind] at h
    cases h
    exact .inl rfl
end Exec

@[simp] theorem finish_ok (s : State) : finish (.ok s) = .next s := rfl

@[simp] theorem finish_error (e : Fatal × State) :
    finish (.error e) = .fault (.fatal e.1 e.2.enterFaulted) := rfl

theorem finish_eq_next {x : Exec State} {t : State} (h : finish x = .next t) : x = .ok t := by
  cases x with
  | ok s => cases h; rfl
  | error e => cases h

theorem finish_eq_fatal {x : Exec State} {k : Fatal} {t : State}
    (h : finish x = .fault (.fatal k t)) : ∃ u, x = .error (k, u) ∧ t = u.enterFaulted := by
  cases x with
  | ok s => cases h
  | error e => cases h; exact ⟨e.2, rfl, rfl⟩

/-- An instruction never answers a refusal, nor the fault of a step from `Faulted`. -/
theorem finish_cases (x : Exec State) :
    (∃ t, finish x = .next t) ∨ ∃ k t, finish x = .fault (.fatal k t) := by
  cases x with
  | ok s => exact .inl ⟨s, rfl⟩
  | error e => exact .inr ⟨e.1, _, rfl⟩

/-! ### Bus accesses inside a step -/

section
variable {s t : State} {a : Word} {v : Byte}

theorem load_ok (h : s.bus.read a = .ok v) : load s a = .ok v := by simp [load, h]

theorem load_error {k : Fatal} (h : s.bus.read a = .error k) : load s a = .error (k, s) := by
  simp [load, h]

theorem load_eq_ok (h : load s a = .ok v) : s.bus.read a = .ok v := by
  unfold load at h
  split at h <;> simp_all

/-- A raising read leaves the state as it was. -/
theorem load_eq_error {e : Fatal × State} (h : load s a = .error e) :
    s.bus.read a = .error e.1 ∧ e.2 = s := by
  unfold load at h
  split at h
  · cases h
  · next hk => cases h; exact ⟨hk, rfl⟩

theorem store_ok {b : Bus} (h : s.bus.write a v = .ok b) :
    store s a v = .ok { s with bus := b } := by simp [store, h]

theorem store_error {k : Fatal} (h : s.bus.write a v = .error k) :
    store s a v = .error (k, s) := by simp [store, h]

/-- A completed write changes the bus and nothing else. -/
theorem store_eq_ok (h : store s a v = .ok t) :
    ∃ b, s.bus.write a v = .ok b ∧ t = { s with bus := b } := by
  unfold store at h
  split at h
  · next b hb => cases h; exact ⟨b, hb, rfl⟩
  · cases h

/-- A raising write leaves the state as it was. -/
theorem store_eq_error {e : Fatal × State} (h : store s a v = .error e) :
    s.bus.write a v = .error e.1 ∧ e.2 = s := by
  unfold store at h
  split at h
  · cases h
  · next hk => cases h; exact ⟨hk, rfl⟩
end

/-- Neighbouring addresses are different locations. -/
theorem location_succ_ne (a : Word) : location (a + 1) ≠ location a := by
  have h1 := region_cases a
  have h2 := region_cases (a + 1)
  have hs : (a + 1).toNat = (a.toNat + 1) % 65536 := by simp [BitVec.toNat_add]
  have hl := a.isLt
  by_cases e1 : region a = .echo <;> by_cases e2 : region (a + 1) = .echo
  · rw [location_echo e1, location_echo e2]
    simp only [e1, e2, reduceCtorEq, false_and, true_and, false_or, or_false] at h1 h2
    omega
  · rw [location_echo e1, location_of_ne_echo e2]
    simp only [e1, reduceCtorEq, false_and, true_and, false_or, or_false] at h1
    omega
  · rw [location_of_ne_echo e1, location_echo e2]
    simp only [e2, reduceCtorEq, false_and, true_and, false_or, or_false] at h2
    omega
  · rw [location_of_ne_echo e1, location_of_ne_echo e2]
    omega

theorem location_pred_ne (a : Word) : location a ≠ location (a - 1) := by
  have := location_succ_ne (a - 1)
  rwa [BitVec.sub_add_cancel] at this

/-! ### The stack -/

/-- What a completed push is (R176): SP two lower, and the two writes, the high byte first. -/
theorem push16_eq_ok {s t : State} {v : Word} (h : push16 s v = .ok t) :
    ∃ b1 b2, s.bus.write (s.sp - 1) (hiByte v) = .ok b1 ∧
      b1.write (s.sp - 1 - 1) (loByte v) = .ok b2 ∧
      t = { s with sp := s.sp - 1 - 1, bus := b2 } := by
  obtain ⟨u, hu, ht⟩ := Exec.bind_eq_ok h
  obtain ⟨b1, hb1, rfl⟩ := store_eq_ok hu
  obtain ⟨b2, hb2, rfl⟩ := store_eq_ok ht
  exact ⟨b1, b2, hb1, hb2, rfl⟩

/-- A push to two accessible addresses completes. -/
theorem push16_ok {s : State} (v : Word) {b1 b2 : Bus}
    (h1 : s.bus.write (s.sp - 1) (hiByte v) = .ok b1)
    (h2 : b1.write (s.sp - 1 - 1) (loByte v) = .ok b2) :
    push16 s v = .ok { s with sp := s.sp - 1 - 1, bus := b2 } := by
  unfold push16 pushByte
  rw [store_ok (s := { s with sp := s.sp - 1 }) h1, Exec.ok_bind]
  exact store_ok (s := { s with sp := s.sp - 1 - 1, bus := b1 }) h2

/-- Where a push can raise (R176): at the first write with SP one lower, or at the second with SP two
lower and the first byte written. -/
theorem push16_eq_error {s : State} {v : Word} {e : Fatal × State} (h : push16 s v = .error e) :
    (s.bus.write (s.sp - 1) (hiByte v) = .error e.1 ∧ e.2 = { s with sp := s.sp - 1 }) ∨
    ∃ b1, s.bus.write (s.sp - 1) (hiByte v) = .ok b1 ∧
      b1.write (s.sp - 1 - 1) (loByte v) = .error e.1 ∧
      e.2 = { s with sp := s.sp - 1 - 1, bus := b1 } := by
  rcases Exec.bind_eq_error h with h | ⟨u, hu, h⟩
  · exact .inl (store_eq_error h)
  · obtain ⟨b1, hb1, rfl⟩ := store_eq_ok hu
    exact .inr ⟨b1, hb1, store_eq_error h⟩

/-- What a completed pop is (R177): the two reads, low byte first, and SP two higher. -/
theorem pop16_eq_ok {s : State} {r : Word × State} (h : pop16 s = .ok r) :
    ∃ lo hi, s.bus.read s.sp = .ok lo ∧ s.bus.read (s.sp + 1) = .ok hi ∧
      r = (wordOf hi lo, { s with sp := s.sp + 1 + 1 }) := by
  obtain ⟨p, hp, h⟩ := Exec.bind_eq_ok h
  obtain ⟨lo, hlo, hp⟩ := Exec.bind_eq_ok hp
  cases hp
  obtain ⟨q, hq, h⟩ := Exec.bind_eq_ok h
  obtain ⟨hi, hhi, hq⟩ := Exec.bind_eq_ok hq
  cases hq
  cases h
  have := load_eq_ok hhi
  exact ⟨lo, hi, load_eq_ok hlo, this, rfl⟩

theorem pop16_ok {s : State} {lo hi : Byte} (h1 : s.bus.read s.sp = .ok lo)
    (h2 : s.bus.read (s.sp + 1) = .ok hi) :
    pop16 s = .ok (wordOf hi lo, { s with sp := s.sp + 1 + 1 }) := by
  unfold pop16 popByte
  rw [load_ok h1]
  simp only [Exec.ok_bind, Exec.pure_eq]
  rw [load_ok (s := { s with sp := s.sp + 1 }) h2]
  rfl

/-- Where a pop can raise (R177). -/
theorem pop16_eq_error {s : State} {e : Fatal × State} (h : pop16 s = .error e) :
    (s.bus.read s.sp = .error e.1 ∧ e.2 = s) ∨
    ∃ lo, s.bus.read s.sp = .ok lo ∧ s.bus.read (s.sp + 1) = .error e.1 ∧
      e.2 = { s with sp := s.sp + 1 } := by
  rcases Exec.bind_eq_error h with h | ⟨p, hp, h⟩
  · rcases Exec.bind_eq_error h with h | ⟨lo, _, h⟩
    · exact .inl (load_eq_error h)
    · cases h
  · obtain ⟨lo, hlo, hp⟩ := Exec.bind_eq_ok hp
    cases hp
    rcases Exec.bind_eq_error h with h | ⟨q, _, h⟩
    · rcases Exec.bind_eq_error h with h | ⟨hi, _, h⟩
      · have := load_eq_error h
        exact .inr ⟨lo, load_eq_ok hlo, this⟩
      · cases h
    · cases h

/-- What a completed call is. -/
theorem callTo_eq_ok {s t : State} {a : Word} (h : callTo s a = .ok t) :
    ∃ u, push16 s s.pc = .ok u ∧ t = { u with pc := a } := by
  obtain ⟨u, hu, h⟩ := Exec.bind_eq_ok h
  cases h
  exact ⟨u, hu, rfl⟩

/-- What a completed return is. -/
theorem returnFromCall_eq_ok {s t : State} (h : returnFromCall s = .ok t) :
    ∃ r, pop16 s = .ok r ∧ t = { r.2 with pc := r.1 } := by
  obtain ⟨r, hr, h⟩ := Exec.bind_eq_ok h
  cases h
  exact ⟨r, hr, rfl⟩

/-! ### Read, compute, write back -/

@[simp] theorem readOpnd_reg (s : State) (r : Reg) : readOpnd s (.reg r) = .ok (s.reg r) := rfl

@[simp] theorem readSrc_reg (s : State) (r : Reg) : readSrc s (.reg r) = .ok (s.reg r) := rfl

@[simp] theorem readSrc_imm (s : State) (n : Byte) : readSrc s (.imm n) = .ok n := rfl

theorem readOpnd_mhl_ok {s : State} {v : Byte} (h : s.bus.read s.hl = .ok v) :
    readOpnd s .mhl = .ok v := load_ok h

theorem readSrc_mhl_ok {s : State} {v : Byte} (h : s.bus.read s.hl = .ok v) :
    readSrc s .mhl = .ok v := load_ok h

/-- On a register the read-modify-write completes in every state. -/
theorem modifyOpnd_reg (s : State) (r : Reg) (op : Byte → Byte → Byte × Byte) :
    modifyOpnd s (.reg r) op =
      .ok (State.setReg { s with f := (op s.f (s.reg r)).2 } r (op s.f (s.reg r)).1) := rfl

/-- On `(HL)` it completes when the read and the write do. -/
theorem modifyOpnd_mhl_ok {s : State} {v : Byte} {b : Bus} (op : Byte → Byte → Byte × Byte)
    (h1 : s.bus.read s.hl = .ok v) (h2 : s.bus.write s.hl (op s.f v).1 = .ok b) :
    modifyOpnd s .mhl op = .ok { s with f := (op s.f v).2, bus := b } := by
  unfold modifyOpnd
  rw [readOpnd_mhl_ok h1, Exec.ok_bind]
  exact store_ok (s := { s with f := (op s.f v).2 }) h2

/-- What a completed read-modify-write is. -/
theorem modifyOpnd_eq_ok {s t : State} {o : Opnd} {op : Byte → Byte → Byte × Byte}
    (h : modifyOpnd s o op = .ok t) :
    (∃ r, o = .reg r ∧
      t = State.setReg { s with f := (op s.f (s.reg r)).2 } r (op s.f (s.reg r)).1) ∨
    ∃ v b, o = .mhl ∧ s.bus.read s.hl = .ok v ∧ s.bus.write s.hl (op s.f v).1 = .ok b ∧
      t = { s with f := (op s.f v).2, bus := b } := by
  cases o with
  | reg r => cases h; exact .inl ⟨r, rfl, rfl⟩
  | mhl =>
    obtain ⟨v, hv, h⟩ := Exec.bind_eq_ok h
    obtain ⟨b, hb, rfl⟩ := store_eq_ok h
    exact .inr ⟨v, b, rfl, load_eq_ok hv, hb, rfl⟩

/-- Where a read-modify-write can raise: at the read, in the state before it, or at the write, with F
already written (R205, R240). -/
theorem modifyOpnd_eq_error {s : State} {o : Opnd} {op : Byte → Byte → Byte × Byte}
    {e : Fatal × State} (h : modifyOpnd s o op = .error e) :
    o = .mhl ∧ ((s.bus.read s.hl = .error e.1 ∧ e.2 = s) ∨
      ∃ v, s.bus.read s.hl = .ok v ∧ s.bus.write s.hl (op s.f v).1 = .error e.1 ∧
        e.2 = { s with f := (op s.f v).2 }) := by
  cases o with
  | reg r => cases h
  | mhl =>
    refine ⟨rfl, ?_⟩
    rcases Exec.bind_eq_error h with h | ⟨v, hv, h⟩
    · exact .inl (load_eq_error h)
    · exact .inr ⟨v, load_eq_ok hv, store_eq_error h⟩

end Sys2Proof.Machine
end

