-- ==== Sys2Proof/Laws/Forms.lean ====
section
/-! SUPPORT. Every instruction's meaning through its form: 502 arms of `exec` are some sixty shared
operations applied to operands, so that a proof about a form is one case and not one per row. -/

namespace Sys2Proof.Machine

/-- The shared operation of a form. -/
def runForm : Form → State → Out
  | .ldRR d r => loadReg d r
  | .ldRImm d n => loadImm d n
  | .ldRHL d => loadRegHL d
  | .ldHLR r => storeHLReg r
  | .ldHLImm n => execLdMhlD8 n
  | .ldAInd m => loadAInd m
  | .ldIndA m => storeIndA m
  | .ldAbsA a => execLdMa16A a
  | .ldAAbs a => execLdAMa16 a
  | .ldhA n => execLdhMa8A n
  | .ldhLoad n => execLdhAMa8 n
  | .ldCA => execLdMcA
  | .ldAC => execLdAMc
  | .ldRRImm p v => loadPairImm p v
  | .ldAbsSP a => execLdMa16Sp a
  | .ldSPHL => execLdSpHl
  | .ldHLSP n => execLdHlSpE8 n
  | .push p => pushPair p
  | .pop p => popPair p
  | .alu op y => aluOp op y
  | .inc8 o => incOpnd o
  | .dec8 o => decOpnd o
  | .addHL p => addHL p
  | .inc16 p => incPair p
  | .dec16 p => decPair p
  | .addSP n => execAddSpE8 n
  | .rlca => accRotate rlc
  | .rrca => accRotate rrc
  | .rla => accRotate rl
  | .rra => accRotate rr
  | .daa => execDaa
  | .cpl => execCpl
  | .scf => execScf
  | .ccf => execCcf
  | .rot op o => rotOpnd op o
  | .bit b o => bitOpnd b o
  | .res b o => resOpnd b o
  | .set b o => setOpnd b o
  | .nop => execNop
  | .halt => execHalt
  | .stop n => execStop n
  | .di => execDi
  | .ei => execEi
  | .jr e => execJrE8 e
  | .jrcc cc e => jumpRelIf cc e
  | .jp a => execJpA16 a
  | .jpcc cc a => jumpIf cc a
  | .jphl => execJpHl
  | .call a => execCallA16 a
  | .callcc cc a => callIf cc a
  | .ret => execRet
  | .retcc cc => retIf cc
  | .reti => execReti
  | .rst t => restart t
  | .illegal op => execIllegal op

/-- The prefix runs the row its second byte names (R93, R240). -/
theorem execPrefixCb_eq (op2 : Byte) (s : State) : execPrefixCb op2 s = runForm (cbForm op2) s := by
  have hx : xField op2 = 0 ∨ xField op2 = 1 ∨ xField op2 = 2 ∨ xField op2 = 3 := by
    have := op2.isLt
    simp only [xField]
    omega
  unfold execPrefixCb cbShared cbForm
  rcases hx with h | h | h | h <;> rw [h] <;> rfl

/-- The meaning of an instruction is the shared operation of its form. -/
theorem exec_eq_runForm (i : Instr) (s : State) : exec i s = runForm i.form s := by
  cases i
  case prefix_cb op2 => exact execPrefixCb_eq op2 s
  all_goals rfl

end Sys2Proof.Machine
end

