-- ==== Sys2Proof/Laws/Exec.lean ====
section
/-! SUPPORT. What any instruction can do to the engine flags, the configuration and the invariant, said
once for all forms (10_state.md R27-R30; 60_exceptions.md R301). -/

namespace Sys2Proof.Machine

/-- A bus error's kinds (R44, R45): the only conditions an instruction's own work can raise. -/
def Fatal.isBusError : Fatal → Bool
  | .romAccessOutOfRange _ _ | .unimplementedRegion _ _ => true
  | .invalidOpcode _ | .unimplementedOpcode _ => false

/-- `t` comes from `s` by register and bus writes alone. -/
structure Tame (s t : State) : Prop where
  halted : t.halted = s.halted
  ime : t.ime = s.ime
  imePending : t.imePending = s.imePending
  faulted : t.faulted = s.faulted
  cfg : t.cfg = s.cfg
  flagsLow : s.f &&& 0x0F#8 = 0#8 → t.f &&& 0x0F#8 = 0#8
  memWf : s.bus.mem.wf → t.bus.mem.wf
  memBacked : (∀ c ∈ s.bus.mem, hasCell c.1 = true) → ∀ c ∈ t.bus.mem, hasCell c.1 = true

theorem Tame.refl (s : State) : Tame s s := ⟨rfl, rfl, rfl, rfl, rfl, id, id, id⟩

theorem Tame.trans {s t u : State} (h : Tame s t) (k : Tame t u) : Tame s u :=
  ⟨k.1.trans h.1, k.2.trans h.2, k.3.trans h.3, k.4.trans h.4, k.5.trans h.5, k.6 ∘ h.6, k.7 ∘ h.7,
    k.8 ∘ h.8⟩

/-- Every state a computation ends in, completed or raising, comes from `s` tamely. -/
def Tames {α : Type} (s : State) (π : α → State) : Exec α → Prop
  | .ok r => Tame s (π r)
  | .error e => e.1.isBusError = true ∧ Tame s e.2

theorem Tames.bind {α β : Type} {s : State} {π : α → State} {ρ : β → State} {x : Exec α}
    {f : α → Exec β} (h : Tames s π x) (k : ∀ r, Tame s (π r) → Tames s ρ (f r)) :
    Tames s ρ (x >>= f) := by
  cases x with
  | ok r => exact k r h
  | error e => exact h

theorem Tames.from {α : Type} {s t : State} {π : α → State} {x : Exec α} (h : Tame s t)
    (k : Tames t π x) : Tames s π x := by
  cases x with
  | ok r => exact h.trans k
  | error e => exact ⟨k.1, h.trans k.2⟩

/-! ### The register writes -/

section
variable (s : State)

theorem tame_sp (v : Word) : Tame s { s with sp := v } := ⟨rfl, rfl, rfl, rfl, rfl, id, id, id⟩

theorem tame_pc (v : Word) : Tame s { s with pc := v } := ⟨rfl, rfl, rfl, rfl, rfl, id, id, id⟩

theorem tame_f {f : Byte} (h : lowF f = lowF s.f) : Tame s { s with f := f } :=
  ⟨rfl, rfl, rfl, rfl, rfl, h.trans, id, id⟩

theorem tame_setReg (r : Reg) (v : Byte) : Tame s (s.setReg r v) := by
  cases r <;> exact ⟨rfl, rfl, rfl, rfl, rfl, id, id, id⟩

theorem tame_a (v : Byte) : Tame s { s with a := v } := tame_setReg s .a v

theorem tame_setR16 (rr : R16) (v : Word) : Tame s (s.setR16 rr v) := by
  cases rr
  case af => exact ⟨rfl, rfl, rfl, rfl, rfl, fun _ => lowF_maskF _, id, id⟩
  all_goals exact ⟨rfl, rfl, rfl, rfl, rfl, id, id, id⟩

theorem tame_setAcc {r : Byte × Byte} (h : lowF r.2 = lowF s.f) : Tame s (s.setAcc r) :=
  ⟨rfl, rfl, rfl, rfl, rfl, h.trans, id, id⟩

theorem tame_jumpRel (n : Byte) : Tame s (s.jumpRel n) := tame_pc s _

theorem tame_indAdvance (m : Ind) : Tame s (indAdvance s m) := by
  cases m <;> first | exact Tame.refl s | exact tame_setR16 s .hl _

theorem tame_aluApply (op : AluOp) (v : Byte) : Tame s (aluApply op s v) := by
  cases op
  case cp => exact tame_f s (lowF_subBytes ..)
  all_goals exact tame_setAcc s (by simp)

/-! ### The bus accesses -/

theorem Bus.read_isBusError {b : Bus} {a : Word} {k : Fatal} (h : b.read a = .error k) :
    k.isBusError = true := by
  rw [Bus.read_eq] at h
  split at h <;> cases h <;> rfl

theorem Bus.write_isBusError {b : Bus} {a : Word} {v : Byte} {k : Fatal}
    (h : b.write a v = .error k) : k.isBusError = true := by
  rw [Bus.write_eq] at h
  split at h <;> cases h <;> rfl

theorem tames_load (a : Word) : Tames s (fun _ => s) (load s a) := by
  unfold load
  split
  · exact Tame.refl s
  · next h => exact ⟨Bus.read_isBusError h, Tame.refl s⟩

theorem tames_store (a : Word) (v : Byte) : Tames s id (store s a v) := by
  unfold store
  split
  · next h => exact ⟨rfl, rfl, rfl, rfl, rfl, id, Bus.write_wf h, Bus.write_backed h⟩
  · next h => exact ⟨Bus.write_isBusError h, Tame.refl s⟩

theorem tames_storeWord (a v : Word) : Tames s id (storeWord s a v) :=
  (tames_store s a _).bind fun t ht => (tames_store t _ _).from ht

theorem tames_push16 (v : Word) : Tames s id (push16 s v) :=
  ((tames_store { s with sp := s.sp - 1 } _ _).from (tame_sp s _)).bind fun t ht =>
    (tames_store { t with sp := t.sp - 1 } _ _).from (ht.trans (tame_sp t _))

theorem tames_popByte : Tames s Prod.snd (popByte s) :=
  (tames_load s _).bind fun _ _ => tame_sp s _

theorem tames_pop16 : Tames s Prod.snd (pop16 s) :=
  (tames_popByte s).bind fun p hp => ((tames_popByte p.2).from hp).bind fun _ hq => hq

theorem tames_returnFromCall : Tames s id (returnFromCall s) :=
  (tames_pop16 s).bind fun r hr => hr.trans (tame_pc r.2 _)

theorem tames_callTo (a : Word) : Tames s id (callTo s a) :=
  (tames_push16 s _).bind fun t ht => ht.trans (tame_pc t _)

theorem tames_ifCond (cc : Cond) {x : Exec State} (h : Tames s id x) :
    Tames s id (ifCond s cc x) := by
  unfold ifCond
  split
  · exact h
  · exact Tame.refl s

theorem tames_readOpnd (o : Opnd) : Tames s (fun _ => s) (readOpnd s o) := by
  cases o
  · exact Tame.refl s
  · exact tames_load s _

theorem tames_readSrc (y : Src) : Tames s (fun _ => s) (readSrc s y) := by
  cases y <;> first | exact Tame.refl s | exact tames_load s _

theorem tames_modifyOpnd (o : Opnd) {op : Byte → Byte → Byte × Byte}
    (h : ∀ f v, lowF (op f v).2 = lowF f) : Tames s id (modifyOpnd s o op) :=
  (tames_readOpnd s o).bind fun v _ => Tames.from (tame_f s (h s.f v)) (by
    cases o
    · exact tame_setReg _ _ _
    · exact tames_store _ _ _)

end

/-! ### The instructions -/

/-- The five instructions that write an engine flag (R27-R29), and the illegal bytes. -/
def touchesEngine : Form → Bool
  | .halt | .stop _ | .di | .ei | .reti | .illegal _ => true
  | _ => false

theorem tames_of_next {s t : State} {o : Out} (h : o = .next t) (k : Tame s t) :
    ∃ x, o = finish x ∧ Tames s id x := ⟨.ok t, h, k⟩

/-- The work of every other instruction is tame. -/
theorem runForm_tame {f : Form} (s : State) (h : touchesEngine f = false) :
    ∃ x, runForm f s = finish x ∧ Tames s id x := by
  cases f
  case ldRR d r => exact tames_of_next rfl (tame_setReg s d _)
  case ldRImm d n => exact tames_of_next rfl (tame_setReg s d n)
  case ldRHL d => exact ⟨_, rfl, (tames_load s _).bind fun v _ => tame_setReg s d v⟩
  case ldHLR r => exact ⟨_, rfl, tames_store s _ _⟩
  case ldHLImm n => exact ⟨_, rfl, tames_store s _ _⟩
  case ldAInd m =>
    exact ⟨_, rfl, (tames_load s _).bind fun v _ => (tame_a s v).trans (tame_indAdvance _ m)⟩
  case ldIndA m =>
    exact ⟨_, rfl, (tames_store s _ _).bind fun t ht => ht.trans (tame_indAdvance t m)⟩
  case ldAbsA a => exact ⟨_, rfl, tames_store s _ _⟩
  case ldAAbs a => exact ⟨_, rfl, (tames_load s _).bind fun v _ => tame_a s v⟩
  case ldhA n => exact ⟨_, rfl, tames_store s _ _⟩
  case ldhLoad n => exact ⟨_, rfl, (tames_load s _).bind fun v _ => tame_a s v⟩
  case ldCA => exact ⟨_, rfl, tames_store s _ _⟩
  case ldAC => exact ⟨_, rfl, (tames_load s _).bind fun v _ => tame_a s v⟩
  case ldRRImm p v => exact tames_of_next rfl (tame_setR16 s _ v)
  case ldAbsSP a => exact ⟨_, rfl, tames_storeWord s _ _⟩
  case ldSPHL => exact tames_of_next rfl (tame_sp s _)
  case ldHLSP n =>
    exact tames_of_next rfl ((tame_f s (lowF_spPlusE8 _ _ n)).trans (tame_setR16 _ .hl _))
  case push p => exact ⟨_, rfl, tames_push16 s _⟩
  case pop p => exact ⟨_, rfl, (tames_pop16 s).bind fun r hr => hr.trans (tame_setR16 r.2 _ _)⟩
  case alu op y => exact ⟨_, rfl, (tames_readSrc s y).bind fun v _ => tame_aluApply s op v⟩
  case inc8 o => exact ⟨_, rfl, tames_modifyOpnd s o lowF_incByte⟩
  case dec8 o => exact ⟨_, rfl, tames_modifyOpnd s o lowF_decByte⟩
  case addHL p => exact tames_of_next rfl ((tame_f s (lowF_addWords ..)).trans (tame_setR16 _ .hl _))
  case inc16 p => exact tames_of_next rfl (tame_setR16 s _ _)
  case dec16 p => exact tames_of_next rfl (tame_setR16 s _ _)
  case addSP n => exact tames_of_next rfl ((tame_f s (lowF_spPlusE8 s.f s.sp n)).trans (tame_sp _ _))
  case rlca | rrca | rla | rra =>
    refine tames_of_next rfl (tame_setAcc s ?_)
    simp only [lowF_putFlag]
    exact lowF_putFlags ..
  case daa => exact tames_of_next rfl (tame_setAcc s (lowF_daa ..))
  case cpl => exact tames_of_next rfl (tame_setAcc s (lowF_cpl ..))
  case scf => exact tames_of_next rfl (tame_f s (lowF_scf _))
  case ccf => exact tames_of_next rfl (tame_f s (lowF_ccf _))
  case rot op o => exact ⟨_, rfl, tames_modifyOpnd s o fun f v => lowF_rotate f v op⟩
  case bit b o =>
    exact ⟨_, rfl, (tames_readOpnd s o).bind fun v _ => tame_f s (lowF_bitTest s.f v b)⟩
  case res b o => exact ⟨_, rfl, tames_modifyOpnd s o fun _ _ => rfl⟩
  case set b o => exact ⟨_, rfl, tames_modifyOpnd s o fun _ _ => rfl⟩
  case nop => exact tames_of_next rfl (Tame.refl s)
  case jr e => exact tames_of_next rfl (tame_jumpRel s e)
  case jrcc cc e => exact ⟨_, rfl, tames_ifCond s cc (tame_jumpRel s e)⟩
  case jp a => exact tames_of_next rfl (tame_pc s a)
  case jpcc cc a => exact ⟨_, rfl, tames_ifCond s cc (tame_pc s a)⟩
  case jphl => exact tames_of_next rfl (tame_pc s _)
  case call a => exact ⟨_, rfl, tames_callTo s a⟩
  case callcc cc a => exact ⟨_, rfl, tames_ifCond s cc (tames_callTo s a)⟩
  case ret => exact ⟨_, rfl, tames_returnFromCall s⟩
  case retcc cc => exact ⟨_, rfl, tames_ifCond s cc (tames_returnFromCall s)⟩
  case rst t => exact ⟨_, rfl, tames_callTo s _⟩
  all_goals cases h

/-- The outcomes of an instruction other than those five and the illegal bytes. -/
theorem exec_tame {i : Instr} (s : State) (h : touchesEngine i.form = false) :
    (∃ t, exec i s = .next t ∧ Tame s t) ∨
      ∃ k t, exec i s = .fault (.fatal k t.enterFaulted) ∧ k.isBusError = true ∧ Tame s t := by
  obtain ⟨x, hx, ht⟩ := runForm_tame s h
  rw [exec_eq_runForm, hx]
  cases x with
  | ok t => exact .inl ⟨t, rfl, ht⟩
  | error e => exact .inr ⟨e.1, e.2, rfl, ht⟩

/-- RETI is a return that sets IME when it completes (R284). -/
theorem execReti_cases (s : State) :
    (∃ t, execReti s = .next { t with ime := true } ∧ Tame s t) ∨
      ∃ k t, execReti s = .fault (.fatal k t.enterFaulted) ∧ k.isBusError = true ∧ Tame s t := by
  have h := tames_returnFromCall s
  unfold execReti
  cases hx : returnFromCall s with
  | ok t =>
    rw [hx] at h
    exact .inl ⟨t, rfl, h⟩
  | error e =>
    rw [hx] at h
    exact .inr ⟨e.1, e.2, rfl, h⟩

/-- No instruction is refused: each completes, or raises a fatal condition into `Faulted` (R300). -/
theorem exec_next_or_fatal (i : Instr) (s : State) :
    (∃ t, exec i s = .next t) ∨ ∃ (k : Fatal) (t : State), exec i s = .fault (.fatal k t.enterFaulted) := by
  cases h : touchesEngine i.form with
  | false =>
    rcases exec_tame s h with ⟨t, ht, -⟩ | ⟨k, t, ht, -⟩
    · exact .inl ⟨t, ht⟩
    · exact .inr ⟨k, t, ht⟩
  | true =>
    rw [exec_eq_runForm]
    generalize i.form = g at h
    cases g <;> try (cases h; done)
    case halt | stop | di | ei => exact .inl ⟨_, rfl⟩
    case illegal => exact .inr ⟨_, s, rfl⟩
    case reti =>
      rcases execReti_cases s with ⟨t, ht, -⟩ | ⟨k, t, ht, -⟩
      · exact .inl ⟨_, ht⟩
      · exact .inr ⟨k, t, ht⟩

end Sys2Proof.Machine
end

