-- ==== Sys2Proof/Laws/Run.lean ====
section
/-! SUPPORT. What a collaborator operation can do, and runs by induction over their acts (40_engine.md R101,
R102). -/

namespace Sys2Proof.Machine

theorem tame_setR8 (s : State) (r : R8) (v : Byte) : Tame s (s.setR8 r v) := by
  cases r
  case f => exact ⟨rfl, rfl, rfl, rfl, rfl, fun _ => lowF_maskF v, id, id⟩
  all_goals exact ⟨rfl, rfl, rfl, rfl, rfl, id, id, id⟩

theorem tame_replyToWrite {s : State} {x : Exec State} (h : Tames s id x) :
    Tame s (replyToWrite x).2 := by
  cases x with
  | ok t => exact h
  | error e => exact h.2

/-- A collaborator operation writes `halted` and `ime` and is otherwise as tame as an instruction: it
reaches neither `ime_pending` nor `faulted` nor the configuration (R101). -/
theorem HostOp.perform_tame (op : HostOp) (s : State) :
    ∃ h i, Tame { s with halted := h, ime := i } (op.perform s).2 := by
  cases op with
  | setR8 r v => exact ⟨_, _, tame_setR8 s r v⟩
  | setR16 rr v => exact ⟨_, _, tame_setR16 s rr v⟩
  | setFlag k b => exact ⟨_, _, tame_f s (lowF_putFlag s.f k b)⟩
  | setHalted b => exact ⟨b, s.ime, Tame.refl _⟩
  | setIme b => exact ⟨s.halted, b, Tame.refl _⟩
  | writeByte a v => exact ⟨_, _, tame_replyToWrite (tames_store s a v)⟩
  | writeWord a v => exact ⟨_, _, tame_replyToWrite (tames_storeWord s a v)⟩
  | readByte a =>
    refine ⟨s.halted, s.ime, ?_⟩
    simp only [HostOp.perform]
    split <;> exact Tame.refl s
  | readWord a =>
    refine ⟨s.halted, s.ime, ?_⟩
    simp only [HostOp.perform]
    split <;> exact Tame.refl s
  | getR8 | getR16 | flagValue | getHalted | getIme => exact ⟨s.halted, s.ime, Tame.refl s⟩

section
variable (op : HostOp) (s : State)

@[simp] theorem HostOp.perform_imePending : (op.perform s).2.imePending = s.imePending :=
  let ⟨_, _, h⟩ := op.perform_tame s; h.imePending
@[simp] theorem HostOp.perform_faulted : (op.perform s).2.faulted = s.faulted :=
  let ⟨_, _, h⟩ := op.perform_tame s; h.faulted
@[simp] theorem HostOp.perform_cfg : (op.perform s).2.cfg = s.cfg :=
  let ⟨_, _, h⟩ := op.perform_tame s; h.cfg
end

/-- Between two steps of a block that has not faulted, a collaborator keeps the invariant. -/
theorem HostOp.perform_inv (op : HostOp) {s : State} (hs : s.Inv) (hf : s.faulted = false) :
    (op.perform s).2.Inv := by
  obtain ⟨_, _, h⟩ := op.perform_tame s
  exact ⟨h.flagsLow hs.flagsLow, h.memWf hs.memWf, h.memBacked hs.memBacked, by simp [hf]⟩

/-- What `INIT_MEM` builds from cells that the block has storage for lies in that storage (R32). -/
theorem Memory.ofCells_backed {cells : List Host.Cell} (h : ∀ c ∈ cells, hasCell c.1 = true) :
    ∀ c ∈ Memory.ofCells cells, hasCell c.1 = true := by
  have : ∀ m : Memory, (∀ c ∈ m, hasCell c.1 = true) →
      ∀ c ∈ cells.foldl (fun m c => Memory.write m c.1 c.2) m, hasCell c.1 = true := by
    induction cells with
    | nil => exact fun m hm => hm
    | cons d ds ih =>
      refine fun m hm => ih (fun c hc => h c (List.mem_cons_of_mem d hc)) _ fun c hc => ?_
      rcases Memory.mem_write hc with e | hc
      · exact e ▸ h d List.mem_cons_self
      · exact hm c hc
  exact this [] (by simp)

/-- The write path of `MbcNone` stores below 0x8000 and nowhere else (R51). -/
theorem mbcWriteByte_eq_some {mbc : MbcVariant} {m n : Memory} {a : Word} {v : Byte}
    (h : mbcWriteByte mbc m a v = some n) : a.toNat < 0x8000 ∧ n = m.write a.toNat v := by
  cases mbc
  unfold mbcWriteByte at h
  simp only at h
  split at h <;> cases h
  exact ⟨by omega, rfl⟩

/-- A completed image load keeps the invariant and changes only the bus (R54). -/
theorem loadImageFrom_inv {image : List Byte} {i : Nat} {s t : State} (hs : s.Inv)
    (h : loadImageFrom s i image = .ok t) : t.Inv ∧ ∃ b, t = { s with bus := b } := by
  induction image generalizing i s with
  | nil =>
    cases h
    exact ⟨hs, _, rfl⟩
  | cons v vs ih =>
    unfold loadImageFrom at h
    split at h
    · next m hm =>
      obtain ⟨ha, rfl⟩ := mbcWriteByte_eq_some hm
      have hcell : hasCell (BitVec.ofNat 16 i).toNat = true := by
        simp only [hasCell, Bool.or_eq_true, decide_eq_true_eq]
        exact .inl (.inl (by omega))
      have hs' : State.Inv
          { s with bus := { s.bus with mem := s.bus.mem.write (BitVec.ofNat 16 i).toNat v } } :=
        ⟨hs.flagsLow, Memory.write_wf _ _ hs.memWf,
          fun c hc => (Memory.mem_write hc).elim (fun e => e ▸ hcell) (hs.memBacked c), hs.status⟩
      obtain ⟨ht, b, hb⟩ := ih hs' h
      exact ⟨ht, b, hb⟩
    · cases h

theorem runActs_append (as bs : List RunAct) (s : State) :
    runActs (as ++ bs) s = match runActs as s with
      | .next t => runActs bs t
      | .fault r => .fault r
      | .refused r => .refused r := by
  induction as generalizing s with
  | nil => rfl
  | cons act as ih =>
    cases act with
    | host op => exact ih _
    | step =>
      simp only [List.cons_append, runActs]
      cases step s with
      | next t => exact ih t
      | fault | refused => rfl

/-- What every completed step and every collaborator operation keeps holds where a run stops. -/
theorem runTo_keeps {P : State → Prop} (hstep : ∀ s t, P s → step s = .next t → P t)
    (hhost : ∀ s (op : HostOp), P s → P (op.perform s).2) (acts : List RunAct) (e : EndCondition)
    {s : State} (hs : P s) : ∀ t, runTo acts e s = .met t ∨ runTo acts e s = .notMet t → P t := by
  induction acts generalizing e s with
  | nil =>
    intro t h
    unfold runTo at h
    split at h <;> rcases h with h | h <;> cases h <;> exact hs
  | cons act acts ih =>
    intro t h
    unfold runTo at h
    split at h
    · rcases h with h | h <;> cases h
      exact hs
    · cases act with
      | host op => exact ih e (hhost s op hs) t h
      | step =>
        simp only at h
        split at h
        · next u hu => exact ih _ (hstep s u hs hu) t h
        all_goals rcases h with h | h <;> cases h

/-- A run that ends in a fault ends in the fault of one of its steps. -/
theorem runTo_faulted {P : State → Prop} (hstep : ∀ s t, P s → step s = .next t → P t)
    (hhost : ∀ s (op : HostOp), P s → P (op.perform s).2) (acts : List RunAct) (e : EndCondition)
    {s : State} (hs : P s) {r : Fault} (h : runTo acts e s = .faulted r) :
    ∃ t, P t ∧ step t = .fault r := by
  induction acts generalizing e s with
  | nil =>
    unfold runTo at h
    split at h <;> cases h
  | cons act acts ih =>
    unfold runTo at h
    split at h
    · cases h
    · cases act with
      | host op => exact ih e (hhost s op hs) h
      | step =>
        simp only at h
        split at h
        · next u hu => exact ih _ (hstep s u hs hu) h
        · next hu =>
          cases h
          exact ⟨s, hs, hu⟩
        · cases h

end Sys2Proof.Machine
end

