-- ==== Sys2Proof/Laws/Step.lean ====
section
/-! SUPPORT. What the fetch and the step can do, said once (40_engine.md R90-R98). -/

namespace Sys2Proof.Machine

theorem fetchByte_ok {s : State} {v : Byte} (h : s.bus.read s.pc = .ok v) :
    fetchByte s = .ok (v, { s with pc := s.pc + 1 }) := by
  unfold fetchByte
  rw [load_ok h]
  rfl

theorem fetchByte_error {s : State} {k : Fatal} (h : s.bus.read s.pc = .error k) :
    fetchByte s = .error (k, s) := by
  unfold fetchByte
  rw [load_error h]
  rfl

/-- A completed byte fetch advances `pc` and changes nothing else (R91). -/
theorem fetchByte_eq_ok {s : State} {r : Byte × State} (h : fetchByte s = .ok r) :
    s.bus.read s.pc = .ok r.1 ∧ r.2 = { s with pc := s.pc + 1 } := by
  obtain ⟨v, hv, h⟩ := Exec.bind_eq_ok h
  cases h
  exact ⟨load_eq_ok hv, rfl⟩

/-- A raising byte fetch leaves `pc` where it was (R91). -/
theorem fetchByte_eq_error {s : State} {e : Fatal × State} (h : fetchByte s = .error e) :
    s.bus.read s.pc = .error e.1 ∧ e.2 = s := by
  rcases Exec.bind_eq_error h with h | ⟨v, _, h⟩
  · exact load_eq_error h
  · cases h

theorem fetchWord_eq_ok {s : State} {r : Word × State} (h : fetchWord s = .ok r) :
    ∃ lo hi, s.bus.read s.pc = .ok lo ∧ s.bus.read (s.pc + 1) = .ok hi ∧ r.1 = wordOf hi lo ∧
      r.2 = { s with pc := s.pc + 1 + 1 } := by
  obtain ⟨p, hp, h⟩ := Exec.bind_eq_ok h
  obtain ⟨hlo, hp2⟩ := fetchByte_eq_ok hp
  obtain ⟨q, hq, h⟩ := Exec.bind_eq_ok h
  obtain ⟨hhi, hq2⟩ := fetchByte_eq_ok hq
  cases h
  rw [hp2] at hhi hq2
  exact ⟨p.1, q.1, hlo, hhi, rfl, hq2⟩

/-- A completed fetch changes `pc` and nothing else. -/
theorem fetchInstr_eq_ok {s : State} {r : Instr × State} (h : fetchInstr s = .ok r) :
    ∃ p, r.2 = { s with pc := p } := by
  obtain ⟨op, hop, h⟩ := Exec.bind_eq_ok h
  obtain ⟨-, hop⟩ := fetchByte_eq_ok hop
  split at h
  · split at h
    · cases h
      exact ⟨_, hop⟩
    · obtain ⟨n, hn, h⟩ := Exec.bind_eq_ok h
      cases h
      have := (fetchByte_eq_ok hn).2
      rw [hop] at this
      exact ⟨_, this⟩
    · obtain ⟨v, hv, h⟩ := Exec.bind_eq_ok h
      cases h
      obtain ⟨_, _, -, -, -, this⟩ := fetchWord_eq_ok hv
      rw [hop] at this
      exact ⟨_, this⟩
    · obtain ⟨n, hn, h⟩ := Exec.bind_eq_ok h
      cases h
      have := (fetchByte_eq_ok hn).2
      rw [hop] at this
      exact ⟨_, this⟩
    · cases h
      exact ⟨_, hop⟩
  · cases h

/-- A raising fetch changes at most `pc` before the raise. -/
theorem fetchInstr_eq_error {s : State} {e : Fatal × State} (h : fetchInstr s = .error e) :
    ∃ p, e.2 = { s with pc := p } := by
  rcases Exec.bind_eq_error h with h | ⟨op, hop, h⟩
  · exact ⟨s.pc, (fetchByte_eq_error h).2⟩
  obtain ⟨-, hop⟩ := fetchByte_eq_ok hop
  split at h
  · split at h
    · cases h
    · rcases Exec.bind_eq_error h with h | ⟨_, _, h⟩
      · exact ⟨_, (fetchByte_eq_error h).2.trans hop⟩
      · cases h
    · rcases Exec.bind_eq_error h with h | ⟨_, _, h⟩
      · rcases Exec.bind_eq_error h with h | ⟨lo, hlo, h⟩
        · exact ⟨_, (fetchByte_eq_error h).2.trans hop⟩
        · rcases Exec.bind_eq_error h with h | ⟨_, _, h⟩
          · have := (fetchByte_eq_ok hlo).2
            rw [hop] at this
            exact ⟨_, (fetchByte_eq_error h).2.trans this⟩
          · cases h
      · cases h
    · rcases Exec.bind_eq_error h with h | ⟨_, _, h⟩
      · exact ⟨_, (fetchByte_eq_error h).2.trans hop⟩
      · cases h
    · cases h
  · cases h
    exact ⟨_, hop⟩

theorem step_faulted {s : State} (h : s.faulted = true) : step s = .fault .noStepFromFaulted := by
  simp [step, h]

theorem step_halted {s : State} (hf : s.faulted = false) (h : s.halted = true) :
    step s = .next s := by simp [step, h, hf]

theorem step_running {s : State} (hf : s.faulted = false) (h : s.halted = false) :
    step s = match fetchInstr s with
      | .ok r => endStep s.imePending (exec r.1 r.2)
      | .error e => raiseFatal e.1 e.2 :=
  (if_neg (by simp [hf])).trans (if_neg (by simp [h]))

theorem endStep_eq_next {p : Bool} {o : Out} {t : State} (h : endStep p o = .next t) :
    ∃ u, o = .next u ∧ t = promoteIme p u := by
  cases o <;> cases h
  exact ⟨_, rfl, rfl⟩

/-- A step that answers a next state is an idle step, or one fetched instruction that completed and
the promotion after it. -/
theorem step_eq_next {s t : State} (h : step s = .next t) :
    s.faulted = false ∧ ((s.halted = true ∧ t = s) ∨
      (s.halted = false ∧ ∃ i p u, fetchInstr s = .ok (i, { s with pc := p }) ∧
        exec i { s with pc := p } = .next u ∧ t = promoteIme s.imePending u)) := by
  rcases Bool.eq_false_or_eq_true s.faulted with hf | hf
  · rw [step_faulted hf] at h
    cases h
  refine ⟨hf, ?_⟩
  rcases Bool.eq_false_or_eq_true s.halted with hh | hh
  · rw [step_halted hf hh] at h
    cases h
    exact .inl ⟨hh, rfl⟩
  rw [step_running hf hh] at h
  cases hr : fetchInstr s with
  | error e => rw [hr] at h; cases h
  | ok r =>
    rw [hr] at h
    obtain ⟨p, hp⟩ := fetchInstr_eq_ok hr
    obtain ⟨u, hu, ht⟩ := endStep_eq_next h
    obtain ⟨i, r2⟩ := r
    subst hp
    exact .inr ⟨hh, i, p, u, rfl, hu, ht⟩

theorem stepReturn_faulted {s : State} (h : s.faulted = true) : stepReturn s = .noStep := by
  simp [stepReturn, h]

theorem stepReturn_halted {s : State} (hf : s.faulted = false) (h : s.halted = true) :
    stepReturn s = .ok 4 := by simp [stepReturn, h, hf]

/-- What a step that executed an instruction returns (R99): the count of the instruction's form. -/
theorem stepReturn_executed {s u t : State} {i : Instr} {n : Nat} (hf : s.faulted = false)
    (h : s.halted = false) (hi : fetchInstr s = .ok (i, u)) (hx : exec i u = .next t)
    (hn : formCycles u.f i.form = some n) : stepReturn s = .ok n := by
  simp [stepReturn, hf, h, hi, hx, hn]

/-- A step that faults has no step to take (R97), or its fetch raised, or the fetched instruction did. -/
theorem step_eq_fault {s : State} {r : Fault} (h : step s = .fault r) :
    (s.faulted = true ∧ r = .noStepFromFaulted) ∨
      (s.faulted = false ∧ s.halted = false ∧
        ((∃ k p, fetchInstr s = .error (k, { s with pc := p }) ∧
            r = .fatal k { s with pc := p, faulted := true }) ∨
          ∃ i p, fetchInstr s = .ok (i, { s with pc := p }) ∧ exec i { s with pc := p } = .fault r)) := by
  rcases Bool.eq_false_or_eq_true s.faulted with hf | hf
  · rw [step_faulted hf] at h
    cases h
    exact .inl ⟨hf, rfl⟩
  rcases Bool.eq_false_or_eq_true s.halted with hh | hh
  · rw [step_halted hf hh] at h
    cases h
  refine .inr ⟨hf, hh, ?_⟩
  rw [step_running hf hh] at h
  cases hr : fetchInstr s with
  | error e =>
    rw [hr] at h
    obtain ⟨p, hp⟩ := fetchInstr_eq_error hr
    obtain ⟨k, t⟩ := e
    subst hp
    cases h
    exact .inl ⟨k, p, rfl, rfl⟩
  | ok q =>
    rw [hr] at h
    obtain ⟨p, hp⟩ := fetchInstr_eq_ok hr
    obtain ⟨i, t⟩ := q
    subst hp
    refine .inr ⟨i, p, rfl, ?_⟩
    cases hx : exec i { s with pc := p } <;> simp only [hx, endStep] at h <;> cases h
    rfl

section
variable (p : Bool) (s : State)

@[simp] theorem promoteIme_reg (r : Reg) : (promoteIme p s).reg r = s.reg r := by
  unfold promoteIme; split <;> rfl
@[simp] theorem promoteIme_f : (promoteIme p s).f = s.f := by unfold promoteIme; split <;> rfl
@[simp] theorem promoteIme_sp : (promoteIme p s).sp = s.sp := by unfold promoteIme; split <;> rfl
@[simp] theorem promoteIme_pc : (promoteIme p s).pc = s.pc := by unfold promoteIme; split <;> rfl
@[simp] theorem promoteIme_halted : (promoteIme p s).halted = s.halted := by
  unfold promoteIme; split <;> rfl
@[simp] theorem promoteIme_faulted : (promoteIme p s).faulted = s.faulted := by
  unfold promoteIme; split <;> rfl
@[simp] theorem promoteIme_bus : (promoteIme p s).bus = s.bus := by unfold promoteIme; split <;> rfl
@[simp] theorem promoteIme_cfg : (promoteIme p s).cfg = s.cfg := by unfold promoteIme; split <;> rfl
end

end Sys2Proof.Machine
end

