-- ==== Sys2Proof/Tests/Slice0.lean ====
section
/-! SUPPORT. The model's own tests: the WellFormed smoke, words written out from the encodings of
30_encoding.md and files 42 to 48, single steps with the results that the rules' examples and
95_test_vectors.md give, and a witness for the hypotheses of every statement that has some. -/

namespace Sys2Proof.Tests

open Sys2Proof.Machine Sys2Proof.Claims

/-! ### Helpers -/

/-- The state an outcome goes on in. -/
def nextOf (o : Out) : Option State :=
  match o with
  | .next t => some t
  | .fault _ => none
  | .refused _ => none

/-- The condition an outcome raises, with SP and `pc` as the raise left them. -/
def raised (o : Out) : Option (Fatal × Word × Word) :=
  match o with
  | .fault (.fatal k t) => some (k, t.sp, t.pc)
  | .next _ => none
  | .fault .noStepFromFaulted => none
  | .refused _ => none

/-- Reset, with these bytes of memory. -/
def withMem (cells : List Host.Cell) : State :=
  { State.reset with bus := { State.reset.bus with mem := Memory.ofCells cells } }

/-- HL = 0xC000, SP = 0xD000, and the byte at 0xC000. -/
def atC000 (v : Byte) : State := { withMem [(0xC000, v)] with h := 0xC0, sp := 0xD000 }

/-- HL in VRAM, and SP with VRAM below it and above it. -/
def inVram : State := { State.reset with h := 0x80, sp := 0x9000 }

/-! ### WellFormed: each check refuses an ill-formed term -/

theorem test_illformed_illegal_row : (Instr.illegal 0x00#8).wellFormed = false := by decide
theorem test_wellformed_illegal_row : (Instr.illegal 0xD3#8).wellFormed = true := by decide
theorem test_illformed_prefix_alone : (Instr.prefix_cb 0x00#8).wellFormed = false := by decide

/-! ### Decoding: words written bit by bit from the rules' encoding lines -/

/-- R140 `01 yyy zzz`: LD A,B is 01 111 000. -/
theorem test_decode_ld_r_r : decode [0b01111000#8] = .ok (.ld_a_b, []) := rfl
/-- R141 `00 yyy 110`: LD L,d8 is 00 101 110. -/
theorem test_decode_ld_r_d8 : decode [0b00101110#8, 0x7F#8] = .ok (.ld_l_d8 0x7F#8, []) := rfl
/-- R142 `01 yyy 110`, R143 `01 110 zzz`, R271: 01 110 110 between them is HALT. -/
theorem test_decode_hl_column : decode [0b01000110#8] = .ok (.ld_b_mhl, []) ∧
    decode [0b01110000#8] = .ok (.ld_mhl_b, []) ∧ decode [0b01110110#8] = .ok (.halt, []) :=
  ⟨rfl, rfl, rfl⟩
/-- R149-R152: the table `rr_ind` at 0x22, 0x32, 0x2A, 0x3A. -/
theorem test_decode_hl_inc_dec : decode [0x22#8] = .ok (.ld_mhli_a, []) ∧
    decode [0x32#8] = .ok (.ld_mhld_a, []) ∧ decode [0x2A#8] = .ok (.ld_a_mhli, []) ∧
    decode [0x3A#8] = .ok (.ld_a_mhld, []) := ⟨rfl, rfl, rfl, rfl⟩
/-- R155-R158: E0, F0, E2, F2. -/
theorem test_decode_page : decode [0xE0#8, 0x0F#8] = .ok (.ldh_ma8_a 0x0F#8, []) ∧
    decode [0xF0#8, 0x44#8] = .ok (.ldh_a_ma8 0x44#8, []) ∧
    decode [0xE2#8, 0x00#8] = .ok (.ld_mc_a, [0x00#8]) ∧ decode [0xF2#8] = .ok (.ld_a_mc, []) :=
  ⟨rfl, rfl, rfl, rfl⟩
/-- R170 `00 pp 0001`, low byte first (R74): the document's LD BC,0x1234. -/
theorem test_decode_ld_rr_d16 :
    decode [0b00000001#8, 0x34#8, 0x12#8] = .ok (.ld_bc_d16 0x1234#16, []) := rfl
/-- R171: 08 lo hi. -/
theorem test_decode_ld_a16_sp :
    decode [0x08#8, 0x00#8, 0xC1#8] = .ok (.ld_ma16_sp 0xC100#16, []) := rfl
/-- R174 `11 pp 0101`, R175 `11 pp 0001`: `p` = 3 is AF. -/
theorem test_decode_push_pop : decode [0b11110101#8] = .ok (.push_af, []) ∧
    decode [0b11110001#8] = .ok (.pop_af, []) := ⟨rfl, rfl⟩
/-- R189 `10 011 zzz` and R203 FE n. -/
theorem test_decode_alu : decode [0b10011100#8] = .ok (.sbc_a_h, []) ∧
    decode [0b11111110#8, 0x3C#8] = .ok (.cp_d8 0x3C#8, []) := ⟨rfl, rfl⟩
/-- R204 `00 yyy 100`, R207 00 110 101. -/
theorem test_decode_inc_dec : decode [0b00111100#8] = .ok (.inc_a, []) ∧
    decode [0b00110101#8] = .ok (.dec_mhl, []) := ⟨rfl, rfl⟩
/-- R220 `00 pp 1001`, R222 `00 pp 1011`, R223 E8 n. -/
theorem test_decode_alu16 : decode [0b00111001#8] = .ok (.add_hl_sp, []) ∧
    decode [0b00101011#8] = .ok (.dec_hl, []) ∧
    decode [0xE8#8, 0xFF#8] = .ok (.add_sp_e8 0xFF#8, []) := ⟨rfl, rfl, rfl⟩
/-- R230-R237: 07, 0F, 17, 1F, 27, 2F, 37, 3F. -/
theorem test_decode_acc : decode [0x07#8] = .ok (.rlca, []) ∧ decode [0x0F#8] = .ok (.rrca, []) ∧
    decode [0x17#8] = .ok (.rla, []) ∧ decode [0x1F#8] = .ok (.rra, []) ∧
    decode [0x27#8] = .ok (.daa, []) ∧ decode [0x2F#8] = .ok (.cpl, []) ∧
    decode [0x37#8] = .ok (.scf, []) ∧ decode [0x3F#8] = .ok (.ccf, []) :=
  ⟨rfl, rfl, rfl, rfl, rfl, rfl, rfl, rfl⟩
/-- R241-R262: CB 00 yyy zzz, CB 01 bbb zzz, CB 10 bbb zzz, CB 11 bbb zzz. -/
theorem test_decode_cb : decode [0xCB#8, 0b00110111#8] = .ok (.swap_a, []) ∧
    decode [0xCB#8, 0b01111100#8] = .ok (.bit_7_h, []) ∧
    decode [0xCB#8, 0b10111110#8] = .ok (.res_7_mhl, []) ∧
    decode [0xCB#8, 0xCB#8] = .ok (.set_1_e, []) := ⟨rfl, rfl, rfl, rfl⟩
/-- R276 `001 cc 000`, R278 `110 cc 010`, R281 `110 cc 100`, R283 `110 cc 000`, R285 `11 yyy 111`. -/
theorem test_decode_control : decode [0b00111000#8, 0x80#8] = .ok (.jr_c_e8 0x80#8, []) ∧
    decode [0b11001010#8, 0x50#8, 0x01#8] = .ok (.jp_z_a16 0x0150#16, []) ∧
    decode [0b11000100#8, 0x34#8, 0x12#8] = .ok (.call_nz_a16 0x1234#16, []) ∧
    decode [0b11010000#8] = .ok (.ret_nc, []) ∧ decode [0b11111111#8] = .ok (.rst_38h, []) :=
  ⟨rfl, rfl, rfl, rfl, rfl⟩
/-- R272: 10 n. R78: an illegal byte. -/
theorem test_decode_stop_illegal : decode [0x10#8, 0x00#8] = .ok (.stop 0x00#8, []) ∧
    decode [0xDD#8, 0x00#8] = .ok (.illegal 0xDD#8, [0x00#8]) := ⟨rfl, rfl⟩
/-- The table's bit numbering: an unprefixed row, and a prefixed row as `0xCB << 8 | op2` (R75). -/
theorem test_table_words : decodeTableWord 8 0x3C = some .inc_a ∧
    decodeTableWord 24 0xC3 = some (.jp_a16 0x0000#16) ∧
    decodeTableWord 16 0xCB7C = some .bit_7_h := ⟨rfl, rfl, rfl⟩

/-! ### Single steps, with the examples of the rules -/

/-- The first step after reset runs the word placed for it, an unprefixed and a prefixed one. -/
theorem test_first_step : (nextOf (step (State.reset.withFetchWord 8 0x3C))).map
    (fun t => (t.a, t.pc)) = some (0x01#8, 0x0001#16) := by decide
theorem test_first_step_prefixed : (nextOf (step (State.reset.withFetchWord 16 0xCBCF))).map
    (fun t => (t.a, t.pc)) = some (0x02#8, 0x0002#16) := by decide
/-- R270's corner case: after reset with nothing placed, the all-zero array executes NOP. -/
theorem test_reset_runs_nop : (nextOf (step State.reset)).map (·.pc) = some 0x0001#16 := by decide
/-- R180: 0x3A + 0xC6. -/
theorem test_add : (nextOf (exec .add_a_b { State.reset with a := 0x3A, b := 0xC6 })).map
    (fun t => (t.a, t.f)) = some (0x00#8, 0xB0#8) := by decide
/-- R184: A=0xE1, [HL]=0x1E, C=1. -/
theorem test_adc_hl : (nextOf (exec .adc_a_mhl { atC000 0x1E with a := 0xE1, f := 0x10 })).map
    (fun t => (t.a, t.f)) = some (0x00#8, 0xB0#8) := by decide
/-- R189's two half-carry rules: A=0x10, B=0x0F, C=1. -/
theorem test_sbc_silicon : (nextOf (exec .sbc_a_b
    { State.reset with a := 0x10, b := 0x0F, f := 0x10 })).map (fun t => (t.a, t.f)) =
      some (0x00#8, 0xE0#8) := by decide
theorem test_sbc_doc_literal : (nextOf (exec .sbc_a_b
    { State.reset with
      a := 0x10, b := 0x0F, f := 0x10, cfg := { Config.default with sbcHRule := .docLiteral } })).map
        (fun t => (t.a, t.f)) = some (0x00#8, 0xC0#8) := by decide
/-- R201: A=0x3C, B=0x2F. -/
theorem test_cp : (nextOf (exec .cp_b { State.reset with a := 0x3C, b := 0x2F })).map
    (fun t => (t.a, t.f)) = some (0x3C#8, 0x60#8) := by decide
/-- R207: [HL]=0x00. -/
theorem test_dec_hl : (nextOf (exec .dec_mhl (atC000 0x00))).map
    (fun t => (t.bus.mem.read 0xC000, t.f)) = some (0xFF#8, 0x60#8) := by decide
/-- R220: HL=0x8A23, BC=0x0605, Z=1. -/
theorem test_add_hl : (nextOf (exec .add_hl_bc
    { State.reset with h := 0x8A, l := 0x23, b := 0x06, c := 0x05, f := 0x80 })).map
      (fun t => (t.hl, t.f)) = some (0x9028#16, 0xA0#8) := by decide
/-- R223: SP=0x0001, E8 FF: the result is zero and Z is 0. -/
theorem test_add_sp : (nextOf (exec (.add_sp_e8 0xFF) { State.reset with sp := 0x0001 })).map
    (fun t => (t.sp, t.f)) = some (0x0000#16, 0x30#8) := by decide
/-- R230: A=0x00 gives Z=0. R241: B=0x85. -/
theorem test_rlca : (nextOf (exec .rlca { State.reset with f := 0x80 })).map (·.f) = some 0x00#8 := by
  decide
theorem test_rlc : (nextOf (exec .rlc_b { State.reset with b := 0x85 })).map
    (fun t => (t.b, t.f)) = some (0x0B#8, 0x10#8) := by decide
/-- R234: A=0x00 with N=1 H=1 C=1. -/
theorem test_daa : (nextOf (exec .daa { State.reset with f := 0x70 })).map
    (fun t => (t.a, t.f)) = some (0x9A#8, 0x50#8) := by decide
/-- R147: BC=0xFF80. R149: HL=0xFFFF writes IE and wraps. -/
theorem test_store_hram : raised (exec .ld_mbc_a { State.reset with b := 0xFF, c := 0x80 }) =
    some (.unimplementedRegion .write 0xFF80#16, 0x0000#16, 0x0000#16) := by decide
theorem test_store_ie : (nextOf (exec .ld_mhli_a
    { State.reset with a := 0xFF, h := 0xFF, l := 0xFF })).map (fun t => (t.bus.ie, t.hl)) =
      some (true, 0x0000#16) := by decide
/-- R175: POP AF masks F. -/
theorem test_pop_af : (nextOf (exec .pop_af
    { withMem [(0xCFFE, 0x3F), (0xCFFF, 0x12)] with sp := 0xCFFE })).map
      (fun t => (t.a, t.f, t.sp)) = some (0x12#8, 0x30#8, 0xD000#16) := by decide
/-- R280: the return address and the stack bytes. -/
theorem test_call : (nextOf (exec (.call_a16 0x1234) { State.reset with sp := 0xD000, pc := 0x0103 })).map
    (fun t => (t.bus.mem.read 0xCFFF, t.bus.mem.read 0xCFFE, t.sp, t.pc)) =
      some (0x01#8, 0x03#8, 0xCFFE#16, 0x1234#16) := by decide
/-- R276: 38 80 at 0x0100 with C=1. -/
theorem test_jr : (nextOf (exec (.jr_c_e8 0x80) { State.reset with f := 0x10, pc := 0x0102 })).map
    (·.pc) = some 0x0082#16 := by decide
/-- R324: taken and untaken counts of CALL cc. -/
theorem test_cycles : formCycles 0x00#8 (.callcc .nz 0) = some 24 ∧
    formCycles 0x80#8 (.callcc .nz 0) = some 12 := by decide

/-! ### Witnesses: the hypotheses of each statement hold together -/

theorem witness_DecodeAfterEncode : (Instr.call_c_a16 0x2000#16).wellFormed = true := rfl
theorem witness_EncodeAfterDecode :
    decode [0x31#8, 0xFE#8, 0xDF#8, 0x00#8] = .ok (.ld_sp_d16 0xDFFE#16, [0x00#8]) := rfl
theorem witness_LengthIsToldByFirstByte : decode [0xCB#8, 0xFF#8] = .ok (.set_7_a, []) ∧
    lengthOf 0x01#8 ≤ [0x34#8, 0x12#8].length + 1 ∧ lengthOf 0xD3#8 ≤ 0 + 1 := ⟨rfl, by decide, by decide⟩

/-- JP 0x0150 at the reset entry, under each handled set; under `docMinimum`, NOP. -/
theorem witness_StepRunsDecodedInstruction :
    (let s := withMem [(0, 0xC3), (1, 0x50), (2, 0x01)];
      Running s ∧ BytesAt s.bus s.pc [0xC3#8, 0x50#8, 0x01#8] ∧
      decode [0xC3#8, 0x50#8, 0x01#8] = .ok (.jp_a16 0x0150#16, []) ∧ s.cfg.handledSet = .full) ∧
    (let s := { State.reset with cfg := { Config.default with handledSet := .docMinimum } };
      Running s ∧ BytesAt s.bus s.pc [0x00#8] ∧ decode [0x00#8] = .ok (.nop, []) ∧
      0x00#8 ∉ controlFlowOpcodes) :=
  ⟨⟨⟨rfl, rfl⟩, ⟨rfl, rfl, rfl, trivial⟩, rfl, rfl⟩, ⟨rfl, rfl⟩, ⟨rfl, trivial⟩, rfl, by decide⟩
/-- `pc` at the first VRAM address. -/
theorem witness_FetchFaultLeavesPc : let s := { State.reset with pc := 0x8000 };
    Running s ∧ s.bus.read s.pc = .error (.unimplementedRegion .read 0x8000#16) := ⟨⟨rfl, rfl⟩, rfl⟩
theorem witness_IllegalBytesAreFatal : let s := withMem [(0, 0xD3)];
    (0xD3#8).toNat ∈ [0xD3, 0xDB, 0xDD, 0xE3, 0xE4, 0xEB, 0xEC, 0xED, 0xF4, 0xFC, 0xFD] ∧
    Running s ∧ s.bus.read s.pc = .ok 0xD3#8 := ⟨by decide, ⟨rfl, rfl⟩, rfl⟩
theorem witness_HandledSetSelectsControlFlow :
    decode [0xFF#8] = .ok (.rst_38h, []) ∧
    (let s := { withMem [(0, 0x18)] with cfg := { Config.default with handledSet := .docMinimum } };
      Running s ∧ s.bus.read s.pc = .ok 0x18#8 ∧ s.cfg.handledSet = .docMinimum ∧
      0x18#8 ∈ controlFlowOpcodes) ∧
    State.reset.bus.read State.reset.pc = .ok 0x00#8 ∧ State.reset.cfg.handledSet = .full :=
  ⟨rfl, ⟨⟨rfl, rfl⟩, rfl, rfl, by decide⟩, rfl, rfl⟩
theorem witness_HaltedEngineIdles : let s := { State.reset with halted := true };
    s.faulted = false ∧ s.halted = true := ⟨rfl, rfl⟩
theorem witness_FatalStepEntersFaulted : (State.reset.enterFaulted).faulted = true ∧
    (let s := { State.reset with pc := 0xFF80 };
      step s = .fault (.fatal (.unimplementedRegion .read 0xFF80#16) { s with faulted := true })) :=
  ⟨rfl, rfl⟩
/-- DI and NOP with an EI pending; EI and NOP with none. -/
theorem witness_EiIsDelayedOneInstruction :
    (let s := { withMem [(0, 0xF3)] with imePending := true };
      Running s ∧ fetchInstr s = .ok (.di, { s with pc := 0x0001 }) ∧
      step s = .next { s with pc := 0x0001, imePending := false }) ∧
    (let s := { State.reset with imePending := true };
      Running s ∧ fetchInstr s = .ok (.nop, { s with pc := 0x0001 }) ∧
      step s = .next { s with pc := 0x0001, ime := true, imePending := false }) ∧
    (let s := withMem [(0, 0xFB)];
      Running s ∧ fetchInstr s = .ok (.ei, { s with pc := 0x0001 }) ∧
      step s = .next { s with pc := 0x0001, imePending := true }) ∧
    (Running State.reset ∧ fetchInstr State.reset = .ok (.nop, { State.reset with pc := 0x0001 }) ∧
      step State.reset = .next { State.reset with pc := 0x0001 }) :=
  ⟨⟨⟨rfl, rfl⟩, rfl, rfl⟩, ⟨⟨rfl, rfl⟩, rfl, rfl⟩, ⟨⟨rfl, rfl⟩, rfl, rfl⟩, ⟨rfl, rfl⟩, rfl, rfl⟩
theorem witness_OnlyTheseWriteEngineFlags :
    exec (.stop 0) State.reset = .next { State.reset with halted := true } ∧
    exec .ei State.reset = .next { State.reset with imePending := true } ∧
    exec .di { State.reset with ime := true } = .next State.reset := ⟨rfl, rfl, rfl⟩
theorem witness_StepReturnsCyclesOrFatal : stepReturn State.reset = .ok 4 ∧
    stepReturn { State.reset with pc := 0xA000 } = .err (.romAccessOutOfRange .read 0xA000#16) ∧
    stepReturn State.reset.enterFaulted = .noStep := by decide
theorem witness_StepKeepsInvariant : State.reset.Inv ∧
    step State.reset = .next { State.reset with pc := 0x0001 } ∧
    (let s := { State.reset with pc := 0x8000 };
      s.Inv ∧ step s = .fault (.fatal (.unimplementedRegion .read 0x8000#16) { s with faulted := true })) :=
  ⟨⟨by decide, by decide, by decide, by decide⟩, rfl, ⟨by decide, by decide, by decide, by decide⟩, rfl⟩
theorem witness_ViewsAreTheirCells : R16.hl ≠ R16.af := by decide
theorem witness_FlagWriteIsOneBit : 7 < 8 ∧ 7 ≠ flagBit .c := by decide

/-- Reads at both ends of each range of R40, of a bus with a byte at the WRAM ends. -/
theorem witness_BusReadByAddress :
    let b := { (withMem [(0xC000, 0x11), (0xDDFF, 0x22), (0xDFFF, 0x33)]).bus with ie := true };
    b.read 0x0000 = .ok 0x00#8 ∧ b.read 0x7FFF = .ok 0x00#8 ∧
    b.read 0x8000 = .error (.unimplementedRegion .read 0x8000#16) ∧
    b.read 0x9FFF = .error (.unimplementedRegion .read 0x9FFF#16) ∧
    b.read 0xA000 = .error (.romAccessOutOfRange .read 0xA000#16) ∧
    b.read 0xBFFF = .error (.romAccessOutOfRange .read 0xBFFF#16) ∧
    b.read 0xC000 = .ok 0x11#8 ∧ b.read 0xDFFF = .ok 0x33#8 ∧
    b.read 0xE000 = .ok 0x11#8 ∧ b.read 0xFDFF = .ok 0x22#8 ∧
    b.read 0xFE00 = .error (.unimplementedRegion .read 0xFE00#16) ∧
    b.read 0xFE9F = .error (.unimplementedRegion .read 0xFE9F#16) ∧
    b.read 0xFEA0 = .ok 0x00#8 ∧ b.read 0xFEFF = .ok 0x00#8 ∧
    b.read 0xFF00 = .ok 0x00#8 ∧ b.read 0xFF7F = .ok 0x00#8 ∧
    b.read 0xFF80 = .error (.unimplementedRegion .read 0xFF80#16) ∧
    b.read 0xFFFE = .error (.unimplementedRegion .read 0xFFFE#16) ∧
    b.read 0xFFFF = .ok 0x01#8 :=
  ⟨rfl, rfl, rfl, rfl, rfl, rfl, rfl, rfl, rfl, rfl, rfl, rfl, rfl, rfl, rfl, rfl, rfl, rfl, rfl⟩
/-- Writes at the ends of the ranges: where the byte lands, or what is raised. -/
theorem witness_BusWriteByAddress :
    let b := State.reset.bus;
    b.write 0x7FFF 0x05 = .ok { b with mem := [(0x7FFF, 0x05#8)] } ∧
    b.write 0x8000 0x05 = .error (.unimplementedRegion .write 0x8000#16) ∧
    b.write 0xBFFF 0x05 = .error (.romAccessOutOfRange .write 0xBFFF#16) ∧
    b.write 0xDFFF 0x05 = .ok { b with mem := [(0xDFFF, 0x05#8)] } ∧
    b.write 0xE000 0x05 = .ok { b with mem := [(0xC000, 0x05#8)] } ∧
    b.write 0xFDFF 0x05 = .ok { b with mem := [(0xDDFF, 0x05#8)] } ∧
    b.write 0xFE9F 0x05 = .error (.unimplementedRegion .write 0xFE9F#16) ∧
    b.write 0xFEA0 0x05 = .ok b ∧ b.write 0xFF7F 0x05 = .ok { b with mem := [(0xFF7F, 0x05#8)] } ∧
    b.write 0xFFFE 0x05 = .error (.unimplementedRegion .write 0xFFFE#16) ∧
    b.write 0xFFFF 0x05 = .ok { b with ie := true } :=
  ⟨rfl, rfl, rfl, rfl, rfl, rfl, rfl, rfl, rfl, rfl, rfl⟩
/-- The last echo address, and the last WRAM address with and the first without an alias. -/
theorem witness_EchoIsWram : 0xE000 ≤ (0xFDFF#16).toNat ∧ (0xFDFF#16).toNat ≤ 0xFDFF ∧
    0xC000 ≤ (0xDDFF#16).toNat ∧ (0xDDFF#16).toNat ≤ 0xDDFF ∧ (0xDDFF#16) ≠ 0xDDFF#16 + 0x2000#16 ∧
    0xDE00 ≤ (0xDE00#16).toNat ∧ (0xDE00#16).toNat ≤ 0xDFFF := by decide
/-- At the last address of the array below VRAM, across WRAM and its echo, and at the I/O end. -/
theorem witness_WordsAreLittleEndian : Plain 0x7FFE ∧ Plain (0x7FFE + 1) ∧ Plain 0xDFFF ∧
    Plain (0xDFFF + 1) ∧ Plain 0xFF7E ∧ Plain (0xFF7E + 1) := by
  simp only [Plain]
  decide
theorem witness_ImageLoadFillsRom : (List.replicate 32768 0x3C#8).length ≤ 32768 ∧
    32768 < (List.replicate 32769 0x3C#8).length := by
  rw [List.length_replicate, List.length_replicate]
  omega

theorem witness_RegisterLoads : Instr.ld_a_b.form = .ldRR .a .b ∧
    (Instr.ld_h_d8 0x80).form = .ldRImm .h 0x80 := ⟨rfl, rfl⟩
/-- A form of each clause, with a read that completes and one that raises. -/
theorem witness_MemoryLoads : Instr.ld_h_mhl.form = .ldRHL .h ∧ Instr.ld_a_mbc.form = .ldAInd .bc ∧
    Instr.ld_a_mde.form = .ldAInd .de ∧ Instr.ld_a_mhli.form = .ldAInd .hlInc ∧
    Instr.ld_a_mhld.form = .ldAInd .hlDec ∧ (Instr.ld_a_ma16 0xC000).form = .ldAAbs 0xC000 ∧
    (Instr.ldh_a_ma8 0xFF).form = .ldhLoad 0xFF ∧ Instr.ld_a_mc.form = .ldAC ∧
    (atC000 0x5A).bus.read (atC000 0x5A).hl = .ok 0x5A#8 ∧
    inVram.bus.read inVram.hl = .error (.unimplementedRegion .read 0x8000#16) :=
  ⟨rfl, rfl, rfl, rfl, rfl, rfl, rfl, rfl, rfl, rfl⟩
theorem witness_MemoryStores : Instr.ld_mhl_l.form = .ldHLR .l ∧
    (Instr.ld_mhl_d8 0xAB).form = .ldHLImm 0xAB ∧ Instr.ld_mbc_a.form = .ldIndA .bc ∧
    Instr.ld_mde_a.form = .ldIndA .de ∧ Instr.ld_mhli_a.form = .ldIndA .hlInc ∧
    Instr.ld_mhld_a.form = .ldIndA .hlDec ∧ (Instr.ld_ma16_a 0xFFFF).form = .ldAbsA 0xFFFF ∧
    (Instr.ldh_ma8_a 0x80).form = .ldhA 0x80 ∧ Instr.ld_mc_a.form = .ldCA ∧
    accessible (atC000 0).hl = true ∧
    inVram.bus.write inVram.hl 0x00 = .error (.unimplementedRegion .write 0x8000#16) :=
  ⟨rfl, rfl, rfl, rfl, rfl, rfl, rfl, rfl, rfl, rfl, rfl⟩
theorem witness_PairImmediateLoads : (Instr.ld_sp_d16 0xDFFE).form = .ldRRImm .sp 0xDFFE ∧
    (Instr.ld_bc_d16 0x1234).form = .ldRRImm .bc 0x1234 := ⟨rfl, rfl⟩
/-- The word across 0xFFFF; a first write refused; a second one refused, at the end of the array. -/
theorem witness_StackPointerTransfers : Instr.ld_sp_hl.form = .ldSPHL ∧
    (Instr.ld_ma16_sp 0xFFFF).form = .ldAbsSP 0xFFFF ∧ accessible 0xFFFF = true ∧
    accessible (0xFFFF + 1) = true ∧
    (let s := { State.reset with sp := 0x1234 };
      s.bus.write 0x8000 (loByte s.sp) = .error (.unimplementedRegion .write 0x8000#16) ∧
      s.bus.write 0x7FFF (loByte s.sp) = .ok { s.bus with mem := [(0x7FFF, 0x34#8)] } ∧
      (Bus.write { s.bus with mem := [(0x7FFF, 0x34#8)] } (0x7FFF + 1) (hiByte s.sp)) =
        .error (.unimplementedRegion .write 0x8000#16)) :=
  ⟨rfl, rfl, rfl, rfl, rfl, rfl, rfl⟩
/-- A stack in WRAM; a first write refused; a second one refused, below the first WRAM address. -/
theorem witness_PushStoresPair : Instr.push_bc.form = .push .bc ∧
    accessible ((atC000 0).sp - 1) = true ∧ accessible ((atC000 0).sp - 2) = true ∧
    inVram.bus.write (inVram.sp - 1) 0x00 = .error (.unimplementedRegion .write 0x8FFF#16) ∧
    (let s := { State.reset with sp := 0xC001, b := 0x12 };
      s.bus.write (s.sp - 1) 0x12 = .ok { s.bus with mem := [(0xC000, 0x12#8)] } ∧
      (Bus.write { s.bus with mem := [(0xC000, 0x12#8)] } (s.sp - 2) 0x00) =
        .error (.romAccessOutOfRange .write 0xBFFF#16)) :=
  ⟨rfl, rfl, rfl, rfl, rfl, rfl⟩
theorem witness_PushAtResetStackIsFatal : Instr.push_af.form = .push .af ∧
    State.reset.sp = 0x0000#16 := ⟨rfl, rfl⟩
/-- A stack in WRAM; a first read refused; a second one refused, past the end of the array. -/
theorem witness_PopLoadsPair : Instr.pop_af.form = .pop .af ∧ Instr.pop_de.form = .pop .de ∧
    (let s := atC000 0;
      s.bus.read s.sp = .ok 0x00#8 ∧ s.bus.read (s.sp + 1) = .ok 0x00#8) ∧
    inVram.bus.read inVram.sp = .error (.unimplementedRegion .read 0x9000#16) ∧
    State.reset.bus.read 0x7FFF = .ok 0x00#8 ∧
    State.reset.bus.read (0x7FFF + 1) = .error (.unimplementedRegion .read 0x8000#16) :=
  ⟨rfl, rfl, ⟨rfl, rfl⟩, rfl, rfl, rfl⟩
theorem witness_PopUndoesPush : Instr.push_af.form = .push .af ∧ Instr.pop_af.form = .pop .af ∧
    Plain ((atC000 0).sp - 1) ∧ Plain ((atC000 0).sp - 2) ∧ (atC000 0).f &&& 0x0F#8 = 0#8 :=
  ⟨rfl, rfl, by simp only [Plain]; decide, by simp only [Plain]; decide, rfl⟩
/-- The three operand kinds of ADD and ADC, and a refused read. -/
theorem witness_AddBytesToA : Instr.add_a_b.form = .alu (if false then .adc else .add) (.reg .b) ∧
    Instr.adc_a_mhl.form = .alu (if true then .adc else .add) .mhl ∧
    (Instr.adc_a_d8 0xFF).form = .alu (if true then .adc else .add) (.imm 0xFF) ∧
    SrcIs (atC000 0x1E) (.reg .h) 0xC0 ∧ SrcIs (atC000 0x1E) .mhl 0x1E ∧
    SrcIs (atC000 0x1E) (.imm 0xFF) 0xFF ∧
    inVram.bus.read inVram.hl = .error (.unimplementedRegion .read 0x8000#16) :=
  ⟨rfl, rfl, rfl, rfl, rfl, rfl, rfl⟩
theorem witness_SubtractBytesFromA : Instr.sub_a.form = .alu .sub (.reg .a) ∧
    Instr.sbc_a_mhl.form = .alu .sbc .mhl ∧ (Instr.cp_d8 0x3C).form = .alu .cp (.imm 0x3C) ∧
    SrcIs (atC000 0x4F) .mhl 0x4F := ⟨rfl, rfl, rfl, rfl⟩
theorem witness_LogicOnA : Instr.and_l.form = .alu .and (.reg .l) ∧
    Instr.xor_mhl.form = .alu .xor .mhl ∧ (Instr.or_d8 0x00).form = .alu .or (.imm 0x00) ∧
    SrcIs (atC000 0x8A) .mhl 0x8A := ⟨rfl, rfl, rfl, rfl⟩
theorem witness_IncrementDecrementByte : Instr.inc_a.form = .inc8 (.reg .a) ∧
    Instr.dec_mhl.form = .dec8 .mhl ∧ OpndIs (atC000 0xFF) (.reg .h) 0xC0 ∧
    OpndIs (atC000 0xFF) .mhl 0xFF ∧
    inVram.bus.read inVram.hl = .error (.unimplementedRegion .read 0x8000#16) :=
  ⟨rfl, rfl, rfl, rfl, rfl⟩
theorem witness_AddPairToHL : Instr.add_hl_hl.form = .addHL .hl ∧
    Instr.add_hl_sp.form = .addHL .sp := ⟨rfl, rfl⟩
theorem witness_IncrementDecrementPair : Instr.inc_sp.form = .inc16 .sp ∧
    Instr.dec_hl.form = .dec16 .hl := ⟨rfl, rfl⟩
theorem witness_StackPointerOffset : (Instr.add_sp_e8 0x80).form = .addSP 0x80 ∧
    (Instr.ld_hl_sp_e8 0x80).form = .ldHLSP 0x80 := ⟨rfl, rfl⟩
theorem witness_AccumulatorRotates : Instr.rlca.form = .rlca ∧ Instr.rrca.form = .rrca ∧
    Instr.rla.form = .rla ∧ Instr.rra.form = .rra := ⟨rfl, rfl, rfl, rfl⟩
theorem witness_DecimalAdjust : Instr.daa.form = .daa := rfl
theorem witness_DaaCompletesBcdAddition : 45 < 100 ∧ 99 < 100 := by decide
theorem witness_ComplementAndCarryFlags : Instr.cpl.form = .cpl ∧ Instr.scf.form = .scf ∧
    Instr.ccf.form = .ccf := ⟨rfl, rfl, rfl⟩
/-- A row and the prefix with the same second byte, on a register and on (HL). -/
theorem witness_RotatesAndShifts : Instr.swap_a.form = .rot .swap (.reg .a) ∧
    (Instr.prefix_cb 0x37).form = .rot .swap (.reg .a) ∧ Instr.rl_mhl.form = .rot .rl .mhl ∧
    OpndIs (atC000 0x11) .mhl 0x11 ∧ OpndIs (atC000 0x11) (.reg .a) 0x00 :=
  ⟨rfl, rfl, rfl, rfl, rfl⟩
theorem witness_BitTests : Instr.bit_7_h.form = .bit 7 (.reg .h) ∧
    Instr.bit_0_mhl.form = .bit 0 .mhl ∧ OpndIs (atC000 0x01) .mhl 0x01 := ⟨rfl, rfl, rfl⟩
theorem witness_BitResetsAndSets : Instr.res_7_mhl.form = .res 7 .mhl ∧
    Instr.set_1_e.form = .set 1 (.reg .e) ∧ OpndIs (atC000 0xFF) .mhl 0xFF ∧
    OpndIs (atC000 0xFF) (.reg .e) 0x00 := ⟨rfl, rfl, rfl, rfl⟩
theorem witness_CpuControl : Instr.nop.form = .nop ∧ Instr.halt.form = .halt ∧
    (Instr.stop 0x00).form = .stop 0x00 ∧ Instr.di.form = .di ∧ Instr.ei.form = .ei :=
  ⟨rfl, rfl, rfl, rfl, rfl⟩
/-- Each form, and a condition that holds and one that does not. -/
theorem witness_Jumps : (Instr.jr_e8 0xFE).form = .jr 0xFE ∧
    (Instr.jr_nc_e8 0x80).form = .jrcc .nc 0x80 ∧ (Instr.jp_a16 0x0150).form = .jp 0x0150 ∧
    (Instr.jp_z_a16 0x0150).form = .jpcc .z 0x0150 ∧ Instr.jp_hl.form = .jphl ∧
    CondHolds State.reset .nc ∧ ¬CondHolds State.reset .z :=
  ⟨rfl, rfl, rfl, rfl, rfl, by simp only [CondHolds]; decide, by simp only [CondHolds]; decide⟩
theorem witness_CallsAndRestarts : (Instr.call_a16 0x1234).form = .call 0x1234 ∧
    (Instr.call_nz_a16 0x1234).form = .callcc .nz 0x1234 ∧ Instr.rst_38h.form = .rst 7 ∧
    accessible ((atC000 0).sp - 1) = true ∧ accessible ((atC000 0).sp - 2) = true ∧
    CondHolds (atC000 0) .nz ∧ ¬CondHolds { atC000 0 with f := 0x80 } .nz ∧
    inVram.bus.write (inVram.sp - 1) (hiByte inVram.pc) =
      .error (.unimplementedRegion .write 0x8FFF#16) :=
  ⟨rfl, rfl, rfl, rfl, rfl, by simp only [CondHolds]; decide, by simp only [CondHolds]; decide, rfl⟩
theorem witness_Returns : Instr.ret.form = .ret ∧ Instr.ret_c.form = .retcc .c ∧
    Instr.reti.form = .reti ∧ CondHolds { atC000 0 with f := 0x10 } .c ∧
    ¬CondHolds (atC000 0) .c ∧ (atC000 0).bus.read (atC000 0).sp = .ok 0x00#8 ∧
    (atC000 0).bus.read ((atC000 0).sp + 1) = .ok 0x00#8 ∧
    inVram.bus.read inVram.sp = .error (.unimplementedRegion .read 0x9000#16) :=
  ⟨rfl, rfl, rfl, by simp only [CondHolds]; decide, by simp only [CondHolds]; decide, rfl, rfl, rfl⟩
theorem witness_ReturnUndoesCall : (Instr.call_a16 0x1234).form = .call 0x1234 ∧
    Instr.ret.form = .ret ∧ Plain ((atC000 0).sp - 1) ∧ Plain ((atC000 0).sp - 2) :=
  ⟨rfl, rfl, by simp only [Plain]; decide, by simp only [Plain]; decide⟩
theorem witness_RetiEndsDeliveredInterrupt : Instr.reti.form = .reti ∧
    Plain ((atC000 0).sp - 1) ∧ Plain ((atC000 0).sp - 2) :=
  ⟨rfl, by simp only [Plain]; decide, by simp only [Plain]; decide⟩

/-- The second byte of LD B,d8 and of a prefixed instruction across 0x7FFF/0x8000, the third of JP a16,
and JP a16 unhandled with both operand bytes refused. -/
theorem witness_OperandFetchFaults :
    (let s := { withMem [(0x7FFF, 0x06)] with pc := 0x7FFF };
      Running s ∧ s.bus.read s.pc = .ok 0x06#8 ∧ s.cfg.handledSet = .full ∧ 1 < lengthOf 0x06#8 ∧
      1 < lengthOf 0xCB#8 ∧ s.bus.read (s.pc + 1) = .error (.unimplementedRegion .read 0x8000#16)) ∧
    (let s := { withMem [(0x7FFE, 0xC3), (0x7FFF, 0x50)] with pc := 0x7FFE };
      Running s ∧ s.bus.read s.pc = .ok 0xC3#8 ∧ lengthOf 0xC3#8 = 3 ∧
      s.bus.read (s.pc + 1) = .ok 0x50#8 ∧
      s.bus.read (s.pc + 2) = .error (.unimplementedRegion .read 0x8000#16)) ∧
    (let s := { withMem [(0x7FFF, 0xC3)] with
        pc := 0x7FFF, cfg := { Config.default with handledSet := .docMinimum } };
      Running s ∧ s.bus.read s.pc = .ok 0xC3#8 ∧ s.cfg.handledSet = .docMinimum ∧
      0xC3#8 ∈ controlFlowOpcodes) :=
  ⟨⟨⟨rfl, rfl⟩, rfl, rfl, by decide, by decide, rfl⟩, ⟨⟨rfl, rfl⟩, rfl, rfl, rfl, rfl⟩,
    ⟨⟨rfl, rfl⟩, rfl, rfl, by decide⟩⟩

/-! ### Runs (R102) -/

/-- HALT, then INC A: two steps halt and idle, the collaborator wakes the block (R312), and the run
ends where a step would fetch at 0x0002. -/
def wakeRun (e : EndCondition) : Except Fatal RunEnd :=
  run Config.default .mbcNone { cells := [], ie := false } [0x76#8, 0x3C#8]
    [.step, .step, .host (.setHalted false), .step, .step] e

/-- The `A` and `pc` of a run that met its end. -/
def metAPc (r : Except Fatal RunEnd) : Option (Byte × Word) :=
  match r with
  | .ok (.met t) => some (t.a, t.pc)
  | _ => none

theorem test_run_stops_at_fetch : metAPc (wakeRun (.atFetch 0x0002)) = some (0x01#8, 0x0002#16) := by
  decide
theorem test_run_counts_idle_steps : metAPc (wakeRun (.afterSteps 3)) = some (0x01#8, 0x0002#16) := by
  decide
/-- R97: a run that faults, here at an illegal byte, meets no end condition. -/
theorem test_faulted_run_meets_nothing : metAPc (run Config.default .mbcNone
    { cells := [], ie := false } [0xD3#8] [.step, .step] (.afterSteps 1)) = none := by decide

/-- For each access clause: a byte read and written, refused ones, a word whose second byte is refused (at
the end of the array), and one whose first is. -/
theorem witness_CollaboratorOperations :
    State.reset.bus.read 0x7FFF = .ok 0x00#8 ∧ State.reset.bus.read 0x0000 = .ok 0x00#8 ∧
    State.reset.bus.read (0x7FFF + 1) = .error (.unimplementedRegion .read 0x8000#16) ∧
    State.reset.bus.read (0xFFFF + 1) = .ok 0x00#8 ∧
    State.reset.bus.write 0x7FFF 0x12 = .ok { State.reset.bus with mem := [(0x7FFF, 0x12#8)] } ∧
    Bus.write { State.reset.bus with mem := [(0x7FFF, 0x12#8)] } (0x7FFF + 1) 0x00 =
      .error (.unimplementedRegion .write 0x8000#16) ∧
    State.reset.bus.write 0xBFFF 0x12 = .error (.romAccessOutOfRange .write 0xBFFF#16) ∧
    (∀ a v, HostOp.readByte 0x8000 ≠ .writeWord a v) ∧
    ((HostOp.readByte 0x8000).perform State.reset).1 ≠ .done :=
  ⟨rfl, rfl, rfl, rfl, rfl, rfl, rfl, by simp, by decide⟩
/-- R52, R53: a word across the top of memory: IE at 0xFFFF keeps bit 0, the array's byte is 0x12. -/
theorem test_host_word_wraps : ((HostOp.readWord 0xFFFF).perform
    ((HostOp.writeWord 0xFFFF 0x1203).perform State.reset).2).1 = .word 0x1201#16 := by decide
/-- R99: JR NZ taken is 12 cycles. -/
theorem test_step_returns_cycles :
    stepReturn (withMem [(0, 0x20), (1, 0x05)]) = .ok 12 := by decide
theorem witness_StepReturnsCyclesOrFatal_executed : let s := withMem [(0, 0x20), (1, 0x05)];
    Running s ∧ fetchInstr s = .ok (.jr_nz_e8 0x05, { s with pc := 2 }) ∧
    (nextOf (step s)).map (·.pc) = some 0x0007#16 := ⟨⟨rfl, rfl⟩, rfl, by decide⟩
/-- A launch, a run that meets its end, and one that ends in a fatal condition. -/
theorem witness_RunKeepsInvariant :
    (∃ s, launch Config.default .mbcNone { cells := [(0xC000, 0x12)], ie := true } [0x76#8] = .ok s) ∧
    (∀ c ∈ [((0xC000, 0x12) : Host.Cell)], hasCell c.1 = true) ∧ State.reset.Inv ∧
    State.reset.faulted = false ∧
    (∃ t, runTo [.host (.setIme true), .step] (.afterSteps 1) State.reset = .met t) ∧
    ∃ r, runTo [.host (.setR16 .pc 0x8000), .step] (.afterSteps 1) State.reset = .faulted r :=
  ⟨⟨_, rfl⟩, by decide, ⟨by decide, by decide, by decide, by decide⟩, rfl, ⟨_, rfl⟩, ⟨_, rfl⟩⟩

end Sys2Proof.Tests
end

section
/-! SUPPORT. What an instruction and a step can do to the engine flags and the invariant, said once,
by whether the instruction is one of those that write an engine flag (10_state.md R27-R30;
40_engine.md R96-R98). -/

namespace Sys2Proof.Machine

/-! ### The instructions that write an engine flag -/

theorem touchesEngine_cbForm (op2 : Byte) : touchesEngine (cbForm op2) = false := by
  unfold cbForm
  split <;> rfl

/-- The rows whose form writes an engine flag or raises by itself. -/
theorem eq_of_touchesEngine {i : Instr} (h : touchesEngine i.form = true) :
    i = .halt ∨ (∃ n, i = .stop n) ∨ i = .di ∨ i = .ei ∨ i = .reti ∨ ∃ op, i = .illegal op := by
  cases i
  case halt | stop | di | ei | reti | illegal => simp
  case prefix_cb op2 => cases (touchesEngine_cbForm op2).symm.trans h
  all_goals cases h

/-- What a completed instruction is: register and bus writes alone, or one of the five that write an
engine flag (R27-R29, D9, D28). -/
theorem exec_eq_next {i : Instr} {s t : State} (h : exec i s = .next t) :
    (touchesEngine i.form = false ∧ Tame s t) ∨
      ((i = .halt ∨ ∃ n, i = .stop n) ∧ t = { s with halted := true }) ∨
      (i = .di ∧ t = { s with ime := false, imePending := false }) ∨
      (i = .ei ∧ t = { s with imePending := true }) ∨
      (i = .reti ∧ ∃ u, Tame s u ∧ t = { u with ime := true }) := by
  cases hi : touchesEngine i.form with
  | false =>
    rcases exec_tame s hi with ⟨u, hu, hs⟩ | ⟨k, u, hu, -⟩ <;> rw [hu] at h <;> cases h
    exact .inl ⟨rfl, hs⟩
  | true =>
    rcases eq_of_touchesEngine hi with rfl | ⟨n, rfl⟩ | rfl | rfl | rfl | ⟨op, rfl⟩
    case inr.inr.inr.inr.inl =>
      rcases execReti_cases s with ⟨u, hu, hs⟩ | ⟨k, u, hu, -⟩ <;>
        cases hu.symm.trans h
      exact .inr (.inr (.inr (.inr ⟨rfl, u, hs, rfl⟩)))
    all_goals cases h
    · exact .inr (.inl ⟨.inl rfl, rfl⟩)
    · exact .inr (.inl ⟨.inr ⟨n, rfl⟩, rfl⟩)
    · exact .inr (.inr (.inl ⟨rfl, rfl⟩))
    · exact .inr (.inr (.inr (.inl ⟨rfl, rfl⟩)))

/-- What a raising instruction leaves: register and bus writes alone, and the status `Faulted`
(R301). -/
theorem exec_eq_fault {i : Instr} {s : State} {r : Fault} (h : exec i s = .fault r) :
    ∃ k u, Tame s u ∧ r = .fatal k u.enterFaulted := by
  cases hi : touchesEngine i.form with
  | false =>
    rcases exec_tame s hi with ⟨u, hu, -⟩ | ⟨k, u, hu, -, hs⟩ <;> rw [hu] at h <;> cases h
    exact ⟨k, u, hs, rfl⟩
  | true =>
    rcases eq_of_touchesEngine hi with rfl | ⟨n, rfl⟩ | rfl | rfl | rfl | ⟨op, rfl⟩
    case inr.inr.inr.inr.inl =>
      rcases execReti_cases s with ⟨u, hu, -⟩ | ⟨k, u, hu, -, hs⟩ <;> cases hu.symm.trans h
      exact ⟨k, u, hs, rfl⟩
    all_goals cases h
    exact ⟨_, s, Tame.refl s, rfl⟩

/-- A completed instruction neither faults the engine nor writes the configuration. -/
theorem exec_next_faulted_cfg {i : Instr} {s t : State} (h : exec i s = .next t) :
    t.faulted = s.faulted ∧ t.cfg = s.cfg := by
  rcases exec_eq_next h with ⟨-, ht⟩ | ⟨-, rfl⟩ | ⟨-, rfl⟩ | ⟨-, rfl⟩ | ⟨-, u, hu, rfl⟩
  · exact ⟨ht.faulted, ht.cfg⟩
  · exact ⟨rfl, rfl⟩
  · exact ⟨rfl, rfl⟩
  · exact ⟨rfl, rfl⟩
  · exact ⟨hu.faulted, hu.cfg⟩

/-- Only DI cancels a pending EI (R28, D8). -/
theorem exec_keeps_pending {i : Instr} {s t : State} (h : exec i s = .next t) (hi : i ≠ .di)
    (hp : s.imePending = true) : t.imePending = true := by
  rcases exec_eq_next h with ⟨-, ht⟩ | ⟨-, rfl⟩ | ⟨hd, -⟩ | ⟨-, rfl⟩ | ⟨-, u, hu, rfl⟩
  · exact ht.imePending.trans hp
  · exact hp
  · exact absurd hd hi
  · rfl
  · exact hu.imePending.trans hp

/-- Only EI makes an EI pending (R28, D8). -/
theorem exec_keeps_not_pending {i : Instr} {s t : State} (h : exec i s = .next t) (hi : i ≠ .ei)
    (hp : s.imePending = false) : t.imePending = false := by
  rcases exec_eq_next h with ⟨-, ht⟩ | ⟨-, rfl⟩ | ⟨-, rfl⟩ | ⟨he, -⟩ | ⟨-, u, hu, rfl⟩
  · exact ht.imePending.trans hp
  · exact hp
  · rfl
  · exact absurd he hi
  · exact hu.imePending.trans hp

/-! ### The step -/

/-- A step that raises does so from a running state, and leaves `Faulted` after register and bus
writes alone: IME and the pending EI are as before (R97, R98, R301). -/
theorem step_eq_fatal {s t : State} {k : Fatal} (h : step s = .fault (.fatal k t)) :
    s.faulted = false ∧ s.halted = false ∧ ∃ u, Tame s u ∧ t = u.enterFaulted := by
  rcases step_eq_fault h with ⟨-, hr⟩ | ⟨hf, hh, ⟨_, p, -, hr⟩ | ⟨i, p, -, hx⟩⟩
  · cases hr
  · cases hr
    exact ⟨hf, hh, _, tame_pc s p, rfl⟩
  · obtain ⟨_, u, hu, hr⟩ := exec_eq_fault hx
    cases hr
    exact ⟨hf, hh, u, (tame_pc s p).trans hu, rfl⟩

/-- From a state that has not faulted a step's fault is a fatal condition. -/
theorem step_fault_is_fatal {s : State} {r : Fault} (hf : s.faulted = false)
    (h : step s = .fault r) : ∃ k t, r = .fatal k t := by
  rcases step_eq_fault h with ⟨hf', -⟩ | ⟨-, -, ⟨k, _, -, hr⟩ | ⟨i, p, -, hx⟩⟩
  · rw [hf] at hf'
    cases hf'
  · exact ⟨k, _, hr⟩
  · obtain ⟨k, u, -, hr⟩ := exec_eq_fault hx
    exact ⟨k, _, hr⟩

/-- No step is refused, because no instruction is. -/
theorem step_ne_refused (s : State) (r : Refusal) : step s ≠ .refused r := by
  unfold step
  split_ifs
  · nofun
  · nofun
  · split
    · next q _ =>
      rcases exec_next_or_fatal q.1 q.2 with ⟨t, h⟩ | ⟨k, t, h⟩ <;> rw [h] <;> nofun
    · nofun

/-- A completed step neither faults the engine nor writes the configuration. -/
theorem step_next_faulted_cfg {s t : State} (h : step s = .next t) :
    t.faulted = s.faulted ∧ t.cfg = s.cfg := by
  obtain ⟨-, ⟨-, rfl⟩ | ⟨-, i, p, u, -, hx, rfl⟩⟩ := step_eq_next h
  · exact ⟨rfl, rfl⟩
  · rw [promoteIme_faulted, promoteIme_cfg]
    obtain ⟨hf, hc⟩ := exec_next_faulted_cfg hx
    exact ⟨hf, hc⟩

/-- What a step returns whose fetch raised (R100). -/
theorem stepReturn_fetch_error {s : State} {e : Fatal × State} (hf : s.faulted = false)
    (h : s.halted = false) (he : fetchInstr s = .error e) : stepReturn s = .err e.1 := by
  simp [stepReturn, hf, h, he]

/-- What a step returns whose instruction raised (R100). -/
theorem stepReturn_exec_fatal {s u t : State} {i : Instr} {k : Fatal} (hf : s.faulted = false)
    (h : s.halted = false) (hi : fetchInstr s = .ok (i, u)) (hx : exec i u = .fault (.fatal k t)) :
    stepReturn s = .err k := by
  simp [stepReturn, hf, h, hi, hx]

/-- A step that raises returns the condition it raises (R100). -/
theorem stepReturn_of_fatal {s t : State} {k : Fatal} (h : step s = .fault (.fatal k t)) :
    stepReturn s = .err k := by
  rcases step_eq_fault h with ⟨-, hr⟩ | ⟨hf, hh, ⟨_, p, hi, hr⟩ | ⟨i, p, hi, hx⟩⟩
  · cases hr
  · cases hr
    exact stepReturn_fetch_error hf hh hi
  · exact stepReturn_exec_fatal hf hh hi hx

theorem promoteIme_true_of_pending {s : State} (h : s.imePending = true) :
    promoteIme true s = { s with ime := true, imePending := false } := by simp [promoteIme, h]

@[simp] theorem promoteIme_false (s : State) : promoteIme false s = s := rfl

/-! ### The invariant -/

theorem Tame.inv {s t : State} (h : Tame s t) (hs : s.Inv) : t.Inv :=
  ⟨h.flagsLow hs.flagsLow, h.memWf hs.memWf, h.memBacked hs.memBacked, by
    rw [h.faulted, h.halted]
    exact hs.status⟩

/-- A running state that faults is not halted (R30). -/
theorem enterFaulted_inv {s : State} (hs : s.Inv) (hh : s.halted = false) : s.enterFaulted.Inv :=
  ⟨hs.flagsLow, hs.memWf, hs.memBacked, by simp [hh]⟩

theorem promoteIme_inv (p : Bool) {s : State} (hs : s.Inv) : (promoteIme p s).Inv := by
  obtain ⟨hf, hwf, hb, hst⟩ := hs
  exact ⟨by simpa using hf, by simpa using hwf, by simpa using hb, by simpa using hst⟩

/-- A completed instruction of an engine that has not faulted keeps the invariant: HALT and STOP set
`halted`, which only a faulted engine may not have. -/
theorem exec_next_inv {i : Instr} {s t : State} (hs : s.Inv) (hf : s.faulted = false)
    (h : exec i s = .next t) : t.Inv := by
  rcases exec_eq_next h with ⟨-, ht⟩ | ⟨-, rfl⟩ | ⟨-, rfl⟩ | ⟨-, rfl⟩ | ⟨-, u, hu, rfl⟩
  · exact ht.inv hs
  · exact ⟨hs.flagsLow, hs.memWf, hs.memBacked, by simp [hf]⟩
  · exact ⟨hs.flagsLow, hs.memWf, hs.memBacked, hs.status⟩
  · exact ⟨hs.flagsLow, hs.memWf, hs.memBacked, hs.status⟩
  · obtain ⟨hfl, hwf, hb, hst⟩ := hu.inv hs
    exact ⟨hfl, hwf, hb, hst⟩

theorem step_next_inv {s t : State} (hs : s.Inv) (h : step s = .next t) : t.Inv := by
  obtain ⟨hf, ⟨-, rfl⟩ | ⟨-, i, p, u, -, hx, rfl⟩⟩ := step_eq_next h
  · exact hs
  · exact promoteIme_inv _ (exec_next_inv ((tame_pc s p).inv hs) hf hx)

theorem step_fatal_inv {s t : State} {k : Fatal} (hs : s.Inv) (h : step s = .fault (.fatal k t)) :
    t.Inv := by
  obtain ⟨-, hh, u, hu, rfl⟩ := step_eq_fatal h
  exact enterFaulted_inv (hu.inv hs) (hu.halted.trans hh)

/-- Construction meets the invariant for every `INIT_MEM` the block has storage for (R32, R33). -/
theorem construct_inv (cfg : Config) (mbc : MbcVariant) {init : InitMem}
    (h : ∀ c ∈ init.cells, hasCell c.1 = true) : (State.construct cfg mbc init).Inv :=
  ⟨BitVec.zero_and, Memory.ofCells_wf _, Memory.ofCells_backed h, by simp [State.construct]⟩

end Sys2Proof.Machine
end

section
/-! SUPPORT. What a collaborator operation replies and leaves (40_engine.md R101; 20_memory.md R63,
R64), and the register file's laws on bits (10_state.md R22-R24). -/

namespace Sys2Proof.Machine

/-! ### Bits of F and of the views -/

/-- A flag write leaves every other bit of F alone (R24). -/
theorem getLsbD_putFlag_other (f : Byte) {k : Flag} (b : Bool) {n : Nat} (hn : n < 8)
    (h : n ≠ flagBit k) : (putFlag f k b).getLsbD n = f.getLsbD n := by
  have hbit : (1#8 <<< flagBit k).getLsbD n = false := by
    rw [← BitVec.twoPow_eq, BitVec.getLsbD_twoPow]
    simp [Ne.symm h]
  unfold putFlag
  split
  · rw [BitVec.getLsbD_or, hbit, Bool.or_false]
  · simp only [BitVec.getLsbD_and, BitVec.getLsbD_not, hbit, hn, decide_true, Bool.not_false,
      Bool.and_true]

theorem wordOf_and (h l h' l' : Byte) :
    wordOf (h &&& h') (l &&& l') = wordOf h l &&& wordOf h' l' := by
  apply BitVec.eq_of_getLsbD_eq
  intro i hi
  by_cases hlow : i < 8
  · simp [wordOf, hlow, hi]
  · have hl : l.getLsbD i = false := BitVec.getLsbD_of_ge l i (by omega)
    have hl' : l'.getLsbD i = false := BitVec.getLsbD_of_ge l' i (by omega)
    simp [wordOf, hlow, hi, hl, hl']

/-- Masking the low byte of a word clears its bits 3..0 (R23). -/
theorem wordOf_hiByte_maskF_loByte (v : Word) :
    wordOf (hiByte v) (maskF (loByte v)) = v &&& 0xFFF0#16 := by
  have hmask : wordOf 0xFF#8 0xF0#8 = 0xFFF0#16 := by decide
  have hhi : hiByte v = hiByte v &&& 0xFF#8 := BitVec.and_allOnes.symm
  rw [hhi, maskF, wordOf_and, hmask, wordOf_hiByte_loByte]

/-! ### Collaborator operations -/

theorem isBusError_iff (k : Fatal) :
    k.isBusError = true ↔
      ∃ dir x, k = .romAccessOutOfRange dir x ∨ k = .unimplementedRegion dir x := by
  cases k <;> simp [Fatal.isBusError]

theorem tames_loadWord (s : State) (a : Word) : Tames s (fun _ => s) (loadWord s a) :=
  (tames_load s a).bind fun _ _ => (tames_load s (a + 1)).bind fun _ _ => Tame.refl s

/-- An operation other than the two writers of the engine flags is as tame as an instruction. -/
theorem HostOp.perform_tame_of_ne {op : HostOp} (s : State) (hh : ∀ b, op ≠ .setHalted b)
    (hi : ∀ b, op ≠ .setIme b) : Tame s (op.perform s).2 := by
  cases op with
  | setR8 r v => exact tame_setR8 s r v
  | setR16 rr v => exact tame_setR16 s rr v
  | setFlag k b => exact tame_f s (lowF_putFlag s.f k b)
  | setHalted b => exact absurd rfl (hh b)
  | setIme b => exact absurd rfl (hi b)
  | writeByte a v => exact tame_replyToWrite (tames_store s a v)
  | writeWord a v => exact tame_replyToWrite (tames_storeWord s a v)
  | readByte a =>
    simp only [HostOp.perform]
    split <;> exact Tame.refl s
  | readWord a =>
    simp only [HostOp.perform]
    split <;> exact Tame.refl s
  | getR8 | getR16 | flagValue | getHalted | getIme => exact Tame.refl s

/-- Only `set_halted` writes `halted` (R101). -/
theorem HostOp.perform_halted {op : HostOp} (s : State) (hh : ∀ b, op ≠ .setHalted b) :
    (op.perform s).2.halted = s.halted := by
  by_cases hi : ∃ b, op = .setIme b
  · obtain ⟨b, rfl⟩ := hi
    rfl
  · exact (HostOp.perform_tame_of_ne s hh (not_exists.1 hi)).halted

/-- Only `set_ime` writes `ime` (R101). -/
theorem HostOp.perform_ime {op : HostOp} (s : State) (hi : ∀ b, op ≠ .setIme b) :
    (op.perform s).2.ime = s.ime := by
  by_cases hh : ∃ b, op = .setHalted b
  · obtain ⟨b, rfl⟩ := hh
    rfl
  · exact (HostOp.perform_tame_of_ne s (not_exists.1 hh) hi).ime

/-- A reply other than `done` leaves the block as it was, unless a word write was refused (R63,
log 9). -/
theorem HostOp.perform_eq_self {op : HostOp} {s : State} (h : (op.perform s).1 ≠ .done)
    (hw : ∀ a v, op ≠ .writeWord a v) : (op.perform s).2 = s := by
  cases op with
  | setR8 | setR16 | setFlag | setHalted | setIme => exact absurd rfl h
  | getR8 | getR16 | flagValue | getHalted | getIme => rfl
  | readByte a =>
    simp only [HostOp.perform]
    split <;> rfl
  | readWord a =>
    simp only [HostOp.perform]
    split <;> rfl
  | writeByte a v =>
    simp only [HostOp.perform, State.writeByte] at h ⊢
    cases hx : store s a v with
    | ok t =>
      rw [hx] at h
      exact absurd rfl h
    | error e => exact (store_eq_error hx).2
  | writeWord a v => exact absurd rfl (hw a v)

theorem replyToWrite_eq_error {s : State} {x : Exec State} {k : Fatal} (hx : Tames s id x)
    (h : (replyToWrite x).1 = .error k) : k.isBusError = true := by
  cases x with
  | ok t => cases h
  | error e =>
    cases h
    exact hx.1

/-- The operations that access the bus (R64). -/
def HostOp.isBusAccess : HostOp → Bool
  | .readByte _ | .writeByte _ _ | .readWord _ | .writeWord _ _ => true
  | _ => false

theorem HostOp.isBusAccess_iff (op : HostOp) : op.isBusAccess = true ↔
    (∃ a, op = .readByte a ∨ op = .readWord a) ∨
      ∃ a, (∃ v, op = .writeByte a v) ∨ ∃ v, op = .writeWord a v := by
  cases op <;> simp [HostOp.isBusAccess]

/-- Only a bus access replies an error, and the error is the bus's own (R63). -/
theorem HostOp.perform_eq_error {op : HostOp} {s : State} {k : Fatal}
    (h : (op.perform s).1 = .error k) : k.isBusError = true ∧ op.isBusAccess = true := by
  cases op with
  | readByte a =>
    refine ⟨?_, rfl⟩
    simp only [HostOp.perform] at h
    split at h <;> cases h
    next hr => exact Bus.read_isBusError hr
  | readWord a =>
    refine ⟨?_, rfl⟩
    have ht := tames_loadWord s a
    simp only [HostOp.perform, State.readWord] at h
    split at h <;> cases h
    next hr =>
      rw [hr] at ht
      exact ht.1
  | writeByte a v => exact ⟨replyToWrite_eq_error (tames_store s a v) h, rfl⟩
  | writeWord a v => exact ⟨replyToWrite_eq_error (tames_storeWord s a v) h, rfl⟩
  | getR8 | setR8 | getR16 | setR16 | flagValue | setFlag | getHalted | setHalted | getIme
  | setIme =>
    cases h

section
variable {s : State} {a v : Word} {k : Fatal}

/-! ### A word's two byte accesses (R52, R53) -/

theorem loadWord_ok {lo hi : Byte} (hl : s.bus.read a = .ok lo) (hh : s.bus.read (a + 1) = .ok hi) :
    loadWord s a = .ok (wordOf hi lo) := by
  unfold loadWord
  rw [load_ok hl, Exec.ok_bind, load_ok hh]
  rfl

theorem loadWord_error_low (h : s.bus.read a = .error k) : loadWord s a = .error (k, s) := by
  unfold loadWord
  rw [load_error h]
  rfl

theorem loadWord_error_high {lo : Byte} (hl : s.bus.read a = .ok lo)
    (h : s.bus.read (a + 1) = .error k) : loadWord s a = .error (k, s) := by
  unfold loadWord
  rw [load_ok hl, Exec.ok_bind, load_error h]
  rfl

theorem storeWord_low_ok {b : Bus} (h : s.bus.write a (loByte v) = .ok b) :
    storeWord s a v = store { s with bus := b } (a + 1) (hiByte v) := by
  unfold storeWord
  rw [store_ok h, Exec.ok_bind]

theorem storeWord_error_low (h : s.bus.write a (loByte v) = .error k) :
    storeWord s a v = .error (k, s) := by
  unfold storeWord
  rw [store_error h]
  rfl
end

/-! ### The replies of the bus accesses -/

section
variable {s t : State} {a v : Word} {x : Byte} {e : Fatal × State}

theorem HostOp.perform_readByte_ok (h : s.bus.read a = .ok x) :
    (HostOp.readByte a).perform s = (.byte x, s) := by
  simp [HostOp.perform, State.readByte, h]

theorem HostOp.perform_readByte_error {k : Fatal} (h : s.bus.read a = .error k) :
    (HostOp.readByte a).perform s = (.error k, s) := by
  simp [HostOp.perform, State.readByte, h]

theorem HostOp.perform_readWord_ok (h : loadWord s a = .ok v) :
    (HostOp.readWord a).perform s = (.word v, s) := by
  simp [HostOp.perform, State.readWord, h]

theorem HostOp.perform_readWord_error (h : loadWord s a = .error e) :
    (HostOp.readWord a).perform s = (.error e.1, s) := by
  simp [HostOp.perform, State.readWord, h]

theorem HostOp.perform_writeByte_ok (h : store s a x = .ok t) :
    (HostOp.writeByte a x).perform s = (.done, t) := congrArg replyToWrite h

theorem HostOp.perform_writeByte_error (h : store s a x = .error e) :
    (HostOp.writeByte a x).perform s = (.error e.1, e.2) := congrArg replyToWrite h

theorem HostOp.perform_writeWord_ok (h : storeWord s a v = .ok t) :
    (HostOp.writeWord a v).perform s = (.done, t) := congrArg replyToWrite h

theorem HostOp.perform_writeWord_error (h : storeWord s a v = .error e) :
    (HostOp.writeWord a v).perform s = (.error e.1, e.2) := congrArg replyToWrite h
end

/-! ### Runs -/

/-- No run is refused, because no step is. -/
theorem runTo_ne_refused (acts : List RunAct) (e : EndCondition) (s : State) (r : Refusal) :
    runTo acts e s ≠ .refused r := by
  induction acts generalizing e s with
  | nil =>
    unfold runTo
    split <;> nofun
  | cons act acts ih =>
    unfold runTo
    split
    · nofun
    · cases act with
      | host op => exact ih e _
      | step =>
        simp only
        split
        · exact ih _ _
        · nofun
        · next q hq => exact absurd hq (step_ne_refused s q)

/-- What a run from `s` keeps: the invariant, an engine that has not faulted, the configuration. -/
def RunKeeps (s t : State) : Prop := t.Inv ∧ t.faulted = false ∧ t.cfg = s.cfg

theorem RunKeeps.step {s t u : State} (h : RunKeeps s t) (hu : step t = .next u) :
    RunKeeps s u := by
  obtain ⟨hi, hf, hc⟩ := h
  obtain ⟨huf, huc⟩ := step_next_faulted_cfg hu
  exact ⟨step_next_inv hi hu, huf.trans hf, huc.trans hc⟩

theorem RunKeeps.host {s t : State} (h : RunKeeps s t) (op : HostOp) :
    RunKeeps s (op.perform t).2 := by
  obtain ⟨hi, hf, hc⟩ := h
  exact ⟨op.perform_inv hi hf, (op.perform_faulted t).trans hf, (op.perform_cfg t).trans hc⟩

/-- A launch is construction and a completed image load, which changes the bus alone (R54, R102). -/
theorem launch_eq_ok {cfg : Config} {mbc : MbcVariant} {init : InitMem} {image : List Byte}
    {s : State} (hc : ∀ c ∈ init.cells, hasCell c.1 = true) (h : launch cfg mbc init image = .ok s) :
    s.Inv ∧ ∃ b, s = { State.construct cfg mbc init with bus := b } := by
  unfold launch at h
  split at h <;> cases h
  next hl => exact loadImageFrom_inv (construct_inv cfg mbc hc) hl

end Sys2Proof.Machine
end

section
/-! PROOFS. The obligations about the state (10_state.md), assembled from the lemmas above. -/

namespace Sys2Proof.Machine

open Sys2Proof.Claims

/-- Settles O19: a completed step keeps the invariant, and so does the state a fatal step leaves. -/
theorem stepKeepsInvariant : Obligations.StepKeepsInvariant :=
  fun _ _ hs => ⟨step_next_inv hs, fun _ => step_fatal_inv hs⟩

/-- Settles O13: a raise comes from a running state and does register and bus writes alone before
it. -/
theorem fatalStepEntersFaulted : Obligations.FatalStepEntersFaulted := by
  refine ⟨fun s hf => ⟨step_faulted hf, stepReturn_faulted hf⟩, fun s t k h => ?_⟩
  obtain ⟨hf, hh, u, hu, rfl⟩ := step_eq_fatal h
  exact ⟨⟨hf, hh⟩, rfl, hu.halted.trans hh, hu.ime, hu.imePending, hu.cfg, stepReturn_of_fatal h⟩

/-- Settles O14, by the kinds of completed instruction and the promotion after each. -/
theorem eiIsDelayedOneInstruction : Obligations.EiIsDelayedOneInstruction := by
  intro s t u i ⟨_, hh⟩ hi ht
  obtain ⟨-, ⟨hh', -⟩ | ⟨-, j, p, w, hj, hx, rfl⟩⟩ := step_eq_next ht
  · rw [hh] at hh'
    cases hh'
  cases hi.symm.trans hj
  cases hp : s.imePending with
  | true =>
    refine ⟨fun _ => ?_, nofun, nofun⟩
    by_cases hd : i = .di
    · subst hd
      cases hx
      exact ⟨rfl, fun _ => rfl, fun hn => absurd rfl hn⟩
    · rw [promoteIme_true_of_pending (exec_keeps_pending hx hd hp)]
      exact ⟨rfl, fun h => absurd h hd, fun _ => rfl⟩
  | false =>
    rw [promoteIme_false]
    refine ⟨nofun, fun _ he => ?_, fun _ he => exec_keeps_not_pending hx he hp⟩
    subst he
    cases hx
    exact ⟨rfl, rfl⟩

/-- Settles O15, by the kinds of completed instruction. -/
theorem onlyTheseWriteEngineFlags : Obligations.OnlyTheseWriteEngineFlags := by
  intro i s t h
  obtain ⟨hf, hc⟩ := exec_next_faulted_cfg h
  rcases exec_eq_next h with ⟨-, ht⟩ | ⟨hi, rfl⟩ | ⟨rfl, rfl⟩ | ⟨rfl, rfl⟩ | ⟨rfl, u, hu, rfl⟩
  · exact ⟨fun n => absurd ht.halted n, fun n => absurd ht.ime n,
      fun n => absurd ht.imePending n, hf, hc⟩
  · exact ⟨fun _ => ⟨rfl, hi⟩, fun n => absurd rfl n, fun n => absurd rfl n, hf, hc⟩
  · exact ⟨fun n => absurd rfl n, fun _ => .inl rfl, fun _ => .inr rfl, hf, hc⟩
  · exact ⟨fun n => absurd rfl n, fun n => absurd rfl n, fun _ => .inl rfl, hf, hc⟩
  · exact ⟨fun n => absurd hu.halted n, fun _ => .inr rfl, fun n => absurd hu.imePending n, hf, hc⟩

/-- Settles O59: `RunKeeps` holds at the start and is kept by every act. -/
theorem runKeepsInvariant : Obligations.RunKeepsInvariant := by
  refine ⟨fun cfg mbc init image s hc h => ?_, fun s acts e hs hf => ⟨?_, fun r hr => ?_, ?_⟩⟩
  · obtain ⟨hs, b, rfl⟩ := launch_eq_ok hc h
    exact ⟨hs, ⟨rfl, rfl⟩, rfl⟩
  · exact runTo_keeps (P := RunKeeps s) (fun _ _ => RunKeeps.step) (fun _ op h => h.host op) acts e
      ⟨hs, hf, rfl⟩
  · obtain ⟨u, ⟨hu, huf, -⟩, hur⟩ := runTo_faulted (P := RunKeeps s) (fun _ _ => RunKeeps.step)
      (fun _ op h => h.host op) acts e ⟨hs, hf, rfl⟩ hr
    obtain ⟨k, t, rfl⟩ := step_fault_is_fatal huf hur
    obtain ⟨-, -, w, -, rfl⟩ := step_eq_fatal hur
    exact ⟨k, _, rfl, step_fatal_inv hu hur, rfl⟩
  · exact runTo_ne_refused acts e s

/-- Settles O17: the fields of `State.construct`. -/
theorem constructionState : Obligations.ConstructionState := by
  intro cfg mbc init
  refine ⟨fun r => ?_, fun _ => BitVec.getLsbD_zero, rfl, rfl, rfl, rfl, rfl, rfl, rfl, rfl, rfl,
    rfl⟩
  cases r <;> rfl

/-- Settles O18: reset is a construction from an empty `INIT_MEM`. -/
theorem resetMeetsInvariant : Obligations.ResetMeetsInvariant :=
  construct_inv Config.default .mbcNone (by simp)

/-- Settles O20: the views by their definitions, AF's read-back by the masked word. -/
theorem viewsAreTheirCells : Obligations.ViewsAreTheirCells := fun s v =>
  ⟨fun _ => s.getR16_setR16_same v, wordOf_hiByte_maskF_loByte v, rfl, rfl, rfl, rfl, rfl, rfl⟩

/-- Settles O21: the flag's own bit and the other bits of F by the laws of `putFlag`. -/
theorem flagWriteIsOneBit : Obligations.FlagWriteIsOneBit := fun s k b =>
  ⟨getFlag_putFlag_same s.f k b, fun _ hn h => getLsbD_putFlag_other s.f b hn h, rfl⟩

/-- Settles O58: the accessors by their definitions, each bus access by the outcome of its byte
accesses, and what holds over all operations from the lemmas about `perform`. -/
theorem collaboratorOperations : Obligations.CollaboratorOperations := by
  intro s
  refine ⟨⟨rfl, rfl, rfl, rfl, rfl, rfl, rfl, rfl⟩,
    fun v => ⟨rfl, rfl, rfl, rfl, rfl, rfl, rfl, rfl⟩, fun rr => rfl, wordOf_toNat _ _,
    wordOf_toNat _ _, wordOf_toNat _ _, wordOf_toNat _ _, rfl, rfl, fun rr v => rfl, fun k => rfl,
    fun k b => rfl, rfl, rfl, fun b => rfl, fun b => rfl, ?_⟩
  refine ⟨fun a v h => HostOp.perform_readByte_ok h, fun a k h => HostOp.perform_readByte_error h,
    fun a v b h => HostOp.perform_writeByte_ok (store_ok h),
    fun a v k h => HostOp.perform_writeByte_error (store_error h), ?_⟩
  refine ⟨fun a lo hi hl hh => ⟨_, HostOp.perform_readWord_ok (loadWord_ok hl hh),
      wordOf_toNat hi lo⟩,
    fun a k h => HostOp.perform_readWord_error (loadWord_error_low h),
    fun a lo k hl h => HostOp.perform_readWord_error (loadWord_error_high hl h),
    fun a v b c hb hc => HostOp.perform_writeWord_ok ((storeWord_low_ok hb).trans (store_ok hc)),
    fun a v k h => HostOp.perform_writeWord_error (storeWord_error_low h),
    fun a v b k hb h =>
      HostOp.perform_writeWord_error ((storeWord_low_ok hb).trans (store_error h)), ?_⟩
  intro op
  refine ⟨op.perform_imePending s, op.perform_faulted s, op.perform_cfg s, HostOp.perform_halted s,
    HostOp.perform_ime s, HostOp.perform_eq_self, fun k h => ?_⟩
  obtain ⟨hk, hop⟩ := HostOp.perform_eq_error h
  exact ⟨(isBusError_iff k).1 hk, op.isBusAccess_iff.1 hop⟩

end Sys2Proof.Machine
end

section
/-! SUPPORT. The address table (20_memory.md R40) as bounds, what a bus access answers by region, which
addresses name one location (R46), and plain storage (R52, R53, R55, R58). -/

namespace Sys2Proof.Machine

open Sys2Proof.Claims

/-! ### The address table -/

/-- The first address of a region (R40). -/
def Region.first : Region → Nat
  | .rom => 0x0000
  | .vram => 0x8000
  | .cartRam => 0xA000
  | .wram => 0xC000
  | .echo => 0xE000
  | .oam => 0xFE00
  | .unusable => 0xFEA0
  | .io => 0xFF00
  | .hram => 0xFF80
  | .ie => 0xFFFF

/-- The last address of a region (R40). -/
def Region.last : Region → Nat
  | .rom => 0x7FFF
  | .vram => 0x9FFF
  | .cartRam => 0xBFFF
  | .wram => 0xDFFF
  | .echo => 0xFDFF
  | .oam => 0xFE9F
  | .unusable => 0xFEFF
  | .io => 0xFF7F
  | .hram => 0xFFFE
  | .ie => 0xFFFF

/-- An address is within the bounds of its region. -/
theorem region_bounds (a : Word) :
    (region a).first ≤ a.toNat ∧ a.toNat ≤ (region a).last := by
  have := a.isLt
  simp only [region]
  split_ifs <;> simp only [Region.first, Region.last] <;> omega

theorem first_le_of_region {a : Word} {r : Region} (h : region a = r) : r.first ≤ a.toNat :=
  h ▸ (region_bounds a).1

theorem le_last_of_region {a : Word} {r : Region} (h : region a = r) : a.toNat ≤ r.last :=
  h ▸ (region_bounds a).2

/-- The regions do not overlap: an address within a region's bounds is in that region. -/
theorem region_eq {a : Word} {r : Region} (h1 : r.first ≤ a.toNat) (h2 : a.toNat ≤ r.last) :
    region a = r := by
  unfold region
  cases r <;> simp only [Region.first, Region.last] at h1 h2 <;>
    simp (disch := omega) only [if_pos, if_neg]

/-! ### Bus accesses by region -/

section
variable {a : Word}

/-- The array, WRAM and I/O are read at the address itself (R44, R46, R47, R51). -/
theorem Bus.read_own (b : Bus) (h : region a = .rom ∨ region a = .wram ∨ region a = .io) :
    b.read a = .ok (b.mem.read a.toNat) := by
  rw [Bus.read_eq]
  rcases h with h | h | h <;> simp [h, location]

theorem Bus.write_own (b : Bus) (v : Byte)
    (h : region a = .rom ∨ region a = .wram ∨ region a = .io) :
    b.write a v = .ok { b with mem := b.mem.write a.toNat v } := by
  rw [Bus.write_eq]
  rcases h with h | h | h <;> simp [h, location]

theorem Bus.read_echo (b : Bus) (h : region a = .echo) :
    b.read a = .ok (b.mem.read (a.toNat - 0x2000)) := by
  simp [Bus.read_eq, h, location]

theorem Bus.write_echo (b : Bus) (v : Byte) (h : region a = .echo) :
    b.write a v = .ok { b with mem := b.mem.write (a.toNat - 0x2000) v } := by
  simp [Bus.write_eq, h, location]

/-- VRAM, OAM and HRAM refuse a read (R45). -/
theorem Bus.read_unimplemented (b : Bus)
    (h : region a = .vram ∨ region a = .oam ∨ region a = .hram) :
    b.read a = .error (.unimplementedRegion .read a) := by
  rw [Bus.read_eq]
  rcases h with h | h | h <;> simp [h]

theorem Bus.write_unimplemented (b : Bus) (v : Byte)
    (h : region a = .vram ∨ region a = .oam ∨ region a = .hram) :
    b.write a v = .error (.unimplementedRegion .write a) := by
  rw [Bus.write_eq]
  rcases h with h | h | h <;> simp [h]

theorem Bus.read_cartRam (b : Bus) (h : region a = .cartRam) :
    b.read a = .error (.romAccessOutOfRange .read a) := by
  simp [Bus.read_eq, h]

theorem Bus.write_cartRam (b : Bus) (v : Byte) (h : region a = .cartRam) :
    b.write a v = .error (.romAccessOutOfRange .write a) := by
  simp [Bus.write_eq, h]

theorem Bus.read_unusable (b : Bus) (h : region a = .unusable) : b.read a = .ok 0x00#8 := by
  simp [Bus.read_eq, h]

theorem Bus.write_unusable (b : Bus) (v : Byte) (h : region a = .unusable) :
    b.write a v = .ok b := by
  simp [Bus.write_eq, h]

theorem Bus.read_ie (b : Bus) (h : region a = .ie) : b.read a = .ok (ieByte b.ie) := by
  simp [Bus.read_eq, h]

/-- IE keeps the low bit of the byte, its value modulo 2 (R48). -/
theorem Bus.write_ie (b : Bus) (v : Byte) (h : region a = .ie) :
    b.write a v = .ok { b with ie := v.toNat % 2 == 1 } := by
  have hbit : v.getLsbD 0 = (v.toNat % 2 == 1) := Nat.testBit_zero _
  simp only [Bus.write_eq, h, hbit]

end

/-! ### Which addresses name one location -/

section
variable {a x : Word}

/-- A location is named by its own address and, in the echo, 0x2000 higher (R46). -/
theorem eq_or_echo_of_location_eq (h : location x = a.toNat) :
    x = a ∨ (region x = .echo ∧ x = a + 0x2000#16) := by
  by_cases hx : region x = .echo
  · have h1 : 0xE000 ≤ x.toNat := first_le_of_region hx
    rw [location_echo hx] at h
    exact .inr ⟨hx, by bv_omega⟩
  · rw [location_of_ne_echo hx] at h
    exact .inl (BitVec.eq_of_toNat_eq h)

/-- A location of the array has one address. -/
theorem eq_of_location_eq_of_rom (ha : region a = .rom) (h : location x = location a) : x = a := by
  rw [location_of_ne_echo (a := a) (by simp [ha])] at h
  rcases eq_or_echo_of_location_eq h with hx | ⟨hx, rfl⟩
  · exact hx
  · have h1 : 0xE000 ≤ (a + 0x2000#16).toNat := first_le_of_region hx
    have h2 : a.toNat ≤ 0x7FFF := le_last_of_region ha
    bv_omega

/-- A location of WRAM has its own address and, up to 0xDDFF, its alias in the echo (R46). -/
theorem eq_or_alias_of_location_eq_of_wram (ha : region a = .wram)
    (h : location x = location a) : x = a ∨ (x = a + 0x2000#16 ∧ a.toNat ≤ 0xDDFF) := by
  rw [location_of_ne_echo (a := a) (by simp [ha])] at h
  rcases eq_or_echo_of_location_eq h with hx | ⟨hx, rfl⟩
  · exact .inl hx
  · have h1 : (a + 0x2000#16).toNat ≤ 0xFDFF := le_last_of_region hx
    have h2 : a.toNat ≤ 0xDFFF := le_last_of_region ha
    exact .inr ⟨rfl, by bv_omega⟩

theorem region_echo_sub (h : region a = .echo) : region (a - 0x2000#16) = .wram := by
  have h1 : 0xE000 ≤ a.toNat := first_le_of_region h
  have h2 : a.toNat ≤ 0xFDFF := le_last_of_region h
  apply region_eq <;> simp only [Region.first, Region.last] <;> bv_omega

theorem toNat_echo_sub (h : region a = .echo) : (a - 0x2000#16).toNat = a.toNat - 0x2000 := by
  have h1 : 0xE000 ≤ a.toNat := first_le_of_region h
  bv_omega

/-- An echo address is read and written as the WRAM address 0x2000 lower (R46). -/
theorem Bus.read_echo_sub (b : Bus) (h : region a = .echo) :
    b.read a = b.read (a - 0x2000#16) := by
  rw [b.read_echo h, b.read_own (.inr (.inl (region_echo_sub h))), toNat_echo_sub h]

theorem Bus.write_echo_sub (b : Bus) (v : Byte) (h : region a = .echo) :
    b.write a v = b.write (a - 0x2000#16) v := by
  rw [b.write_echo v h, b.write_own v (.inr (.inl (region_echo_sub h))), toNat_echo_sub h]

end

/-! ### Plain storage -/

section
variable {a : Word}

/-- Plain storage is the array, WRAM with its echo, and I/O. -/
theorem region_of_plain (h : Plain a) :
    region a = .rom ∨ region a = .wram ∨ region a = .echo ∨ region a = .io := by
  rcases h with h | ⟨h1, h2⟩ | ⟨h1, h2⟩
  · exact .inl (region_eq (Nat.zero_le _) h)
  · by_cases hw : a.toNat ≤ 0xDFFF
    · exact .inr (.inl (region_eq h1 hw))
    · exact .inr (.inr (.inl (region_eq (Nat.lt_of_not_le hw) h2)))
  · exact .inr (.inr (.inr (region_eq h1 h2)))

theorem accessible_of_plain (h : Plain a) : accessible a = true := by
  rcases region_of_plain h with h | h | h | h <;> simp [accessible, h]

theorem storedByte_of_plain (v : Byte) (h : Plain a) : storedByte a v = v := by
  rcases region_of_plain h with h | h | h | h <;> simp [storedByte, h]

/-- A byte written to plain storage is read back (R58). -/
theorem Bus.read_write_plain {b b' : Bus} {v : Byte} (ha : Plain a) (h : b.write a v = .ok b') :
    b'.read a = .ok v :=
  (Bus.read_write_same h).trans (congrArg Except.ok (storedByte_of_plain v ha))

end

/-- A change of the bus alone keeps all that the reads keep. -/
theorem keeps_bus {s : State} {b : Bus} {stored : List Word}
    (h : ∀ x : Word, (∀ w ∈ stored, location x ≠ location w) → b.read x = s.bus.read x) :
    Keeps s { s with bus := b } [] stored :=
  ⟨⟨⟨fun r _ => by cases r <;> rfl, h, rfl, rfl, rfl, rfl, rfl⟩, rfl, rfl⟩, rfl⟩

/-- A word written to plain storage: the write completes and changes the bus alone, each byte reads
back at its address, and every other location is as before (R53, R55, R58). -/
theorem storeWord_plain (s : State) {a : Word} (v : Word) (ha : Plain a) (ha' : Plain (a + 1)) :
    ∃ b, storeWord s a v = .ok { s with bus := b } ∧ b.read a = .ok (loByte v) ∧
      b.read (a + 1) = .ok (hiByte v) ∧
      ∀ x : Word, location x ≠ location a → location x ≠ location (a + 1) →
        b.read x = s.bus.read x := by
  obtain ⟨b1, h1⟩ := s.bus.write_accessible (loByte v) (accessible_of_plain ha)
  obtain ⟨b2, h2⟩ := b1.write_accessible (hiByte v) (accessible_of_plain ha')
  refine ⟨b2, ?_, ?_, Bus.read_write_plain ha' h2, fun x hx hx' => ?_⟩
  · rw [storeWord_low_ok h1]
    exact store_ok h2
  · rw [Bus.read_write_other h2 (location_succ_ne a).symm, Bus.read_write_plain ha h1]
  · rw [Bus.read_write_other h2 hx', Bus.read_write_other h1 hx]

end Sys2Proof.Machine
end

section
/-! SUPPORT. What an image load leaves (20_memory.md R54), as the bus writes it is made of. -/

namespace Sys2Proof.Machine

section
variable {i : Nat}

/-- An index of the array is its own CPU address. -/
theorem toNat_ofNat_of_lt (h : i < 0x8000) : (BitVec.ofNat 16 i).toNat = i :=
  Nat.mod_eq_of_lt (by omega)

theorem region_ofNat_of_lt (h : i < 0x8000) : region (BitVec.ofNat 16 i) = .rom := by
  refine region_eq (Nat.zero_le _) ?_
  rw [toNat_ofNat_of_lt h]
  exact Nat.le_of_lt_succ h

/-- A byte of the image below 0x8000 is stored as a bus write to its address stores it (R54, R51). -/
theorem loadImageFrom_cons {s : State} {v : Byte} {vs : List Byte} {b : Bus} (h : i < 0x8000)
    (hb : s.bus.write (BitVec.ofNat 16 i) v = .ok b) :
    loadImageFrom s i (v :: vs) = loadImageFrom { s with bus := b } (i + 1) vs := by
  have hr := region_ofNat_of_lt h
  rw [Bus.write_own _ _ (.inl hr)] at hb
  cases hb
  rw [loadImageFrom, mbcWrite_rom _ _ _ hr]

/-- The byte of the image at index 0x8000 is refused (R51). -/
theorem loadImageFrom_refused (s : State) (v : Byte) (vs : List Byte) :
    loadImageFrom s 0x8000 (v :: vs) = .error (.romAccessOutOfRange .write 0x8000#16, s) := rfl

/-- A load continues where its first part ends. -/
theorem loadImageFrom_append (s : State) (xs ys : List Byte) :
    loadImageFrom s i (xs ++ ys) =
      loadImageFrom s i xs >>= fun t => loadImageFrom t (i + xs.length) ys := by
  induction xs generalizing s i with
  | nil => rfl
  | cons v vs ih =>
    rw [List.cons_append, loadImageFrom, loadImageFrom]
    split
    · rw [ih, List.length_cons, Nat.add_right_comm, Nat.add_assoc i]
    · rfl

/-- A load that ends within the array completes and changes the bus alone: each byte reads at its
index, and every address outside the image's reads as before (R54). -/
theorem loadImageFrom_fits (s : State) (image : List Byte) (h : i + image.length ≤ 0x8000) :
    ∃ b, loadImageFrom s i image = .ok { s with bus := b } ∧
      (∀ k (hk : k < image.length), b.read (BitVec.ofNat 16 (i + k)) = .ok image[k]) ∧
      ∀ x : Word, x.toNat < i ∨ i + image.length ≤ x.toNat → b.read x = s.bus.read x := by
  induction image generalizing s i with
  | nil => exact ⟨s.bus, rfl, nofun, fun _ _ => rfl⟩
  | cons v vs ih =>
    rw [List.length_cons] at h
    have hi : i < 0x8000 := by omega
    have hin := toNat_ofNat_of_lt hi
    have hr := region_ofNat_of_lt hi
    obtain ⟨b1, h1⟩ := s.bus.write_accessible (a := BitVec.ofNat 16 i) v (by simp [accessible, hr])
    obtain ⟨b, hload, hbytes, hrest⟩ := ih { s with bus := b1 } (i := i + 1) (by omega)
    refine ⟨b, (loadImageFrom_cons hi h1).trans hload, fun k hk => ?_, fun x hx => ?_⟩
    · cases k with
      | zero =>
        rw [Nat.add_zero, hrest _ (.inl (by omega))]
        exact Bus.read_write_plain (.inl (by omega)) h1
      | succ k =>
        rw [← Nat.add_assoc, Nat.add_right_comm]
        exact hbytes k (Nat.lt_of_succ_lt_succ hk)
    · rw [List.length_cons] at hx
      rw [hrest x (by omega)]
      refine Bus.read_write_other h1 fun hl => ?_
      rw [eq_of_location_eq_of_rom hr hl] at hx
      omega

end

end Sys2Proof.Machine
end

section
/-! PROOFS. The obligations about the bus (20_memory.md), assembled from the lemmas above. -/

namespace Sys2Proof.Machine

/-- Settles O22: each range is its region's bounds, and the region says what the read answers. -/
theorem busReadByAddress : Obligations.BusReadByAddress := fun b _ =>
  ⟨fun h => b.read_own (.inl (region_eq (Nat.zero_le _) h)),
    fun h1 h2 => b.read_unimplemented (.inl (region_eq h1 h2)),
    fun h1 h2 => b.read_cartRam (region_eq h1 h2),
    fun h1 h2 => b.read_own (.inr (.inl (region_eq h1 h2))),
    fun h1 h2 => b.read_echo (region_eq h1 h2),
    fun h1 h2 => b.read_unimplemented (.inr (.inl (region_eq h1 h2))),
    fun h1 h2 => b.read_unusable (region_eq h1 h2),
    fun h1 h2 => b.read_own (.inr (.inr (region_eq h1 h2))),
    fun h1 h2 => b.read_unimplemented (.inr (.inr (region_eq h1 h2))),
    fun h => b.read_ie (region_eq h.ge h.le)⟩

/-- Settles O23: each range is its region's bounds, and the region says what the write does. -/
theorem busWriteByAddress : Obligations.BusWriteByAddress := fun b _ v =>
  ⟨fun h => b.write_own v (.inl (region_eq (Nat.zero_le _) h)),
    fun h1 h2 => b.write_unimplemented v (.inl (region_eq h1 h2)),
    fun h1 h2 => b.write_cartRam v (region_eq h1 h2),
    fun h1 h2 => b.write_own v (.inr (.inl (region_eq h1 h2))),
    fun h1 h2 => b.write_echo v (region_eq h1 h2),
    fun h1 h2 => b.write_unimplemented v (.inr (.inl (region_eq h1 h2))),
    fun h1 h2 => b.write_unusable v (region_eq h1 h2),
    fun h1 h2 => b.write_own v (.inr (.inr (region_eq h1 h2))),
    fun h1 h2 => b.write_unimplemented v (.inr (.inr (region_eq h1 h2))),
    fun h => b.write_ie v (region_eq h.ge h.le)⟩

/-- Settles O24: the alias reads as the WRAM address below it, and every other address is another
location. -/
theorem echoIsWram : Obligations.EchoIsWram := by
  refine fun b a v => ⟨fun h1 h2 => ?_, fun h1 h2 => ?_⟩
  · have hr : region a = .echo := region_eq h1 h2
    exact ⟨b.read_echo_sub hr, b.write_echo_sub v hr⟩
  · have hr : region a = .wram := region_eq h1 h2
    obtain ⟨b', hw⟩ := b.write_accessible (a := a) v (by simp [accessible, hr])
    have hback : b'.read a = .ok v := Bus.read_write_plain (.inr (.inl ⟨h1, by omega⟩)) hw
    refine ⟨b', hw, hback, fun h3 => ?_, fun x hne halias => ?_⟩
    · have he : region (a + 0x2000#16) = .echo := by
        apply region_eq <;> simp only [Region.first, Region.last] <;> bv_omega
      rw [b'.read_echo_sub he, BitVec.add_sub_cancel, hback]
    · refine Bus.read_write_other hw fun hl => ?_
      rcases eq_or_alias_of_location_eq_of_wram hr hl with hx | ⟨hx, hlow⟩
      · exact hne hx
      · exact halias.elim (fun hn => hn hx) (fun hhigh => by omega)

/-- Settles O25: the two byte writes by `storeWord_plain`, the read of their concatenation. -/
theorem wordsAreLittleEndian : Obligations.WordsAreLittleEndian := by
  intro s a v ha ha'
  obtain ⟨b, hw, hlo, hhi, hrest⟩ := storeWord_plain s v ha ha'
  refine ⟨{ s with bus := b }, hw, ?_, hlo, hhi, keeps_bus fun x hx => ?_⟩
  · exact (loadWord_ok hlo hhi).trans (congrArg Except.ok (wordOf_hiByte_loByte v))
  · exact hrest x (hx a (by simp)) (hx (a + 1) (by simp))

/-- Settles O26: an image that fits is one load, and a longer one is the load of its first 0x8000
bytes and a refused byte. -/
theorem imageLoadFillsRom : Obligations.ImageLoadFillsRom := by
  refine fun s image => ⟨fun h => ?_, fun h => ?_⟩
  · obtain ⟨b, hload, hbytes, hrest⟩ := loadImageFrom_fits (i := 0) s image (by omega)
    refine ⟨_, hload, fun i hi => ?_, fun x hx => hrest x (.inr (by omega)), rfl⟩
    have hb := hbytes i hi
    rwa [Nat.zero_add] at hb
  · have hlen : (image.take 0x8000).length = 0x8000 := by
      rw [List.length_take]
      omega
    obtain ⟨b, hload, hbytes, -⟩ := loadImageFrom_fits (i := 0) s (image.take 0x8000) (by omega)
    refine ⟨{ s with bus := b }, ?_, fun i hi hlt => ?_⟩
    · rw [State.loadImage, ← List.take_append_drop 0x8000 image, List.drop_eq_getElem_cons h,
        loadImageFrom_append, hload, hlen, Exec.ok_bind, Nat.zero_add]
      exact loadImageFrom_refused _ _ _
    · have hb := hbytes i (by omega)
      rwa [Nat.zero_add, List.getElem_take] at hb

end Sys2Proof.Machine
end

section
/-! SUPPORT. The decoder and the encoder through the entry of the opcode byte (30_encoding.md R70-R78): what
an entry decodes to and from which bytes, so that the opcode map's 256 entries are gone through once. -/

namespace Sys2Proof

open Sys2Proof.Machine

/-! ### The fields of an opcode byte -/

@[simp] theorem xField_opXYZ {x : Nat} (hx : x < 4) (y z : Fin 8) : xField (opXYZ x y z) = x := by
  simp only [xField, opXYZ, BitVec.toNat_ofNat]
  omega

@[simp] theorem yField_opXYZ (x : Nat) (y z : Fin 8) : yField (opXYZ x y z) = y := by
  ext
  simp only [yField, opXYZ, BitVec.toNat_ofNat, Fin.val_ofNat]
  omega

@[simp] theorem zField_opXYZ (x : Nat) (y z : Fin 8) : zField (opXYZ x y z) = z := by
  ext
  simp only [zField, opXYZ, BitVec.toNat_ofNat, Fin.val_ofNat]
  omega

/-- A byte is put together from its fields (R71). -/
theorem opXYZ_fields (op : Byte) : opXYZ (xField op) (yField op) (zField op) = op := by
  simp only [opXYZ, xField, yField, zField, Fin.val_ofNat]
  bv_omega

@[simp] theorem code_opndOfCode : ∀ z : Fin 8, (opndOfCode z).code = z := by decide

@[simp] theorem code_rotOfCode : ∀ y : Fin 8, (rotOfCode y).code = y := by decide

/-! ### The prefixed map -/

theorem prefixedRow_wellFormed : ∀ op2 : Byte, (prefixedRow op2).wellFormed = true := by decide

/-- The form of a row of the prefixed map is the one its fields select (R76). -/
theorem prefixedRow_form : ∀ op2 : Byte, (prefixedRow op2).form = cbForm op2 := by decide

/-- The encoding lines of the prefixed forms put the fields of the second byte together again. -/
theorem encode_prefixedRow (op2 : Byte) : encode (prefixedRow op2) = [0xCB#8, op2] := by
  have hx : xField op2 < 4 := by
    have := op2.isLt
    simp only [xField]
    omega
  have hf := opXYZ_fields op2
  rw [encode, prefixedRow_form, cbForm]
  interval_cases h : xField op2 <;> simp [Form.encode, hf]

/-! ### The illegal bytes -/

/-- The map has no instruction at an illegal byte (R78). -/
theorem opcodeEntry_illegal {op : Byte} (h : op ∈ illegalBytes) : opcodeEntry op = .illegal := by
  fin_cases h <;> rfl

/-- An illegal byte is dispatched to its handler under either handled set (R94, R95). -/
theorem handled_illegal {op : Byte} (h : op ∈ illegalBytes) (hs : HandledSet) :
    handled hs op = true := by
  cases hs with
  | full => rfl
  | docMinimum => fin_cases h <;> rfl

/-- The fetch of an illegal byte is its one byte (R78, R94). -/
theorem fetchInstr_illegal {s : State} {op : Byte} (h : op ∈ illegalBytes)
    (hr : s.bus.read s.pc = .ok op) :
    fetchInstr s = .ok (.illegal op, { s with pc := s.pc + 1 }) := by
  rw [fetchInstr, fetchByte_ok hr, Exec.ok_bind, if_pos (handled_illegal h _), opcodeEntry_illegal h]
  rfl

/-! ### What an entry decodes to -/

/-- The instruction of an entry at the opcode byte `op`, with `n` for the byte and `v` for the word
after it. -/
def Entry.instr (op n : Byte) (v : Word) : Entry → Instr
  | .op i => i
  | .imm8 f => f n
  | .imm16 f => f v
  | .cb => prefixedRow n
  | .illegal => .illegal op

/-- The bytes of that instruction, in fetch order (R70, R74). -/
def Entry.bytes (op n : Byte) (v : Word) : Entry → List Byte
  | .op _ | .illegal => [op]
  | .imm8 _ | .cb => [op, n]
  | .imm16 _ => op :: wordBytes v

theorem decode_bytes (op n : Byte) (v : Word) (rest : List Byte) :
    decode ((opcodeEntry op).bytes op n v ++ rest) = .ok ((opcodeEntry op).instr op n v, rest) := by
  cases h : opcodeEntry op <;> simp [Entry.bytes, Entry.instr, wordBytes, decode, h]

/-- What decodes is the instruction of its opcode byte's entry, from the bytes of that entry. -/
theorem decode_eq_ok {op : Byte} {tl : List Byte} {i : Instr} {rest : List Byte}
    (h : decode (op :: tl) = .ok (i, rest)) :
    ∃ n v, i = (opcodeEntry op).instr op n v ∧ op :: tl = (opcodeEntry op).bytes op n v ++ rest := by
  simp only [decode] at h
  split at h <;> cases h
  case h_1 he => exact ⟨0, 0, by rw [he]; exact ⟨rfl, rfl⟩⟩
  case h_2 n he => exact ⟨n, 0, by rw [he]; exact ⟨rfl, rfl⟩⟩
  case h_4 lo hi he =>
    exact ⟨0, wordOf hi lo, by rw [he]; simp [Entry.instr, Entry.bytes, wordBytes]⟩
  case h_6 op2 he => exact ⟨op2, 0, by rw [he]; exact ⟨rfl, rfl⟩⟩
  case h_8 he => exact ⟨0, 0, by rw [he]; exact ⟨rfl, rfl⟩⟩

/-- A list at least as long as the bytes of an entry begins with such bytes. -/
theorem Entry.exists_bytes {e : Entry} {op : Byte} {tl : List Byte}
    (h : (e.bytes op 0 0).length ≤ tl.length + 1) :
    ∃ n v rest, op :: tl = e.bytes op n v ++ rest := by
  match e, tl, h with
  | .op _, tl, _ | .illegal, tl, _ => exact ⟨0, 0, tl, rfl⟩
  | .imm8 _, n :: rest, _ | .cb, n :: rest, _ => exact ⟨n, 0, rest, rfl⟩
  | .imm16 _, lo :: hi :: rest, _ => exact ⟨0, wordOf hi lo, rest, by simp [Entry.bytes, wordBytes]⟩

/-- An opcode byte by the row and the column of the map it stands in (R75). -/
theorem exists_nibbles (op : Byte) : ∃ h l : Fin 16, op = BitVec.ofNat 8 (h * 16 + l) := by
  refine ⟨Fin.ofNat 16 (op.toNat / 16), Fin.ofNat 16 op.toNat, ?_⟩
  simp only [Fin.val_ofNat]
  bv_omega

/-- The opcode map agrees with the encoding lines and the lengths, entry by entry (R75, R77): the one
walk through its 256 entries, of which 0xCB stands for the prefixed map. -/
theorem opcodeEntry_agrees (op n : Byte) (v : Word) :
    ((opcodeEntry op).instr op n v).wellFormed = true ∧
      encode ((opcodeEntry op).instr op n v) = (opcodeEntry op).bytes op n v ∧
      ((opcodeEntry op).bytes op n v).length = lengthOf op := by
  obtain ⟨h, l, rfl⟩ := exists_nibbles op
  fin_cases h <;> fin_cases l
  -- The entry of 0xCB = 203 is the 204th goal.
  pick_goal 204
  · exact ⟨prefixedRow_wellFormed n, encode_prefixedRow n, rfl⟩
  all_goals exact ⟨rfl, rfl, rfl⟩

theorem length_bytes (op n : Byte) (v : Word) :
    ((opcodeEntry op).bytes op n v).length = lengthOf op :=
  have ⟨_, _, hlen⟩ := opcodeEntry_agrees op n v
  hlen

/-! ### Decoding what is encoded -/

/-- A word after its opcode byte is read back (R70). -/
theorem decode_imm16 {op : Byte} {f : Word → Instr} (h : opcodeEntry op = .imm16 f) (v : Word)
    (rest : List Byte) : decode (op :: wordBytes v ++ rest) = .ok (f v, rest) := by
  have hd := decode_bytes op 0 v rest
  rwa [h] at hd

theorem decode_illegal {op : Byte} (h : op ∈ illegalBytes) (rest : List Byte) :
    decode (op :: rest) = .ok (.illegal op, rest) := by
  have hd := decode_bytes op 0 0 rest
  rwa [opcodeEntry_illegal h] at hd

theorem decode_encode {i : Instr} (h : i.wellFormed = true) (rest : List Byte) :
    decode (encode i ++ rest) = .ok (i, rest) := by
  cases i
  case illegal op => exact decode_illegal (List.contains_iff_mem.1 h) rest
  case prefix_cb => cases h
  case ld_bc_d16 v | ld_de_d16 v | ld_hl_d16 v | ld_sp_d16 v | ld_ma16_sp v | ld_ma16_a v
      | ld_a_ma16 v | jp_a16 v | jp_nz_a16 v | jp_z_a16 v | jp_nc_a16 v | jp_c_a16 v | call_a16 v | call_nz_a16 v
      | call_z_a16 v | call_nc_a16 v | call_c_a16 v => exact decode_imm16 rfl v rest
  all_goals rfl

theorem encode_of_decode {bs rest : List Byte} {i : Instr} (h : decode bs = .ok (i, rest)) :
    i.wellFormed = true ∧ encode i ++ rest = bs := by
  cases bs with
  | nil => cases h
  | cons op tl =>
    obtain ⟨n, v, rfl, hbs⟩ := decode_eq_ok h
    obtain ⟨hwf, henc, -⟩ := opcodeEntry_agrees op n v
    exact ⟨hwf, by rw [henc, hbs]⟩

/-! ### The listed opcode bytes -/

/-- A byte is in a list when its number is in the list of their numbers. -/
theorem toNat_mem_map {op : Byte} {l : List Byte} : op.toNat ∈ l.map BitVec.toNat ↔ op ∈ l :=
  List.mem_map_of_injective BitVec.toNat_injective

theorem twoByte_not_threeByte : ∀ op ∈ twoByteOpcodes, op ∉ threeByteOpcodes := by decide

theorem lengthOf_cases (op : Byte) :
    (op ∈ threeByteOpcodes ∧ op ∉ twoByteOpcodes ∧ lengthOf op = 3) ∨
      (op ∉ threeByteOpcodes ∧ op ∈ twoByteOpcodes ∧ lengthOf op = 2) ∨
      (op ∉ threeByteOpcodes ∧ op ∉ twoByteOpcodes ∧ lengthOf op = 1) := by
  by_cases h3 : op ∈ threeByteOpcodes
  · exact .inl ⟨h3, fun h2 => twoByte_not_threeByte op h2 h3, by simp [lengthOf, h3]⟩
  · by_cases h2 : op ∈ twoByteOpcodes
    · exact .inr (.inl ⟨h3, h2, by simp [lengthOf, h3, h2]⟩)
    · exact .inr (.inr ⟨h3, h2, by simp [lengthOf, h3, h2]⟩)

end Sys2Proof
end

section
/-! PROOFS. The obligations about the encoding (30_encoding.md), assembled from the lemmas above. -/

namespace Sys2Proof

open Sys2Proof.Machine Sys2Proof.Claims

/-- Settles O1, by the constructors of the instruction in `decode_encode`. -/
theorem decodeAfterEncode : Obligations.DecodeAfterEncode := fun _ rest h => decode_encode h rest

/-- Settles O2: what decodes is an entry's instruction, and each entry agrees with its encoding line. -/
theorem encodeAfterDecode : Obligations.EncodeAfterDecode := fun _ _ _ => encode_of_decode

/-- Settles O4: the entry of the first byte tells the bytes consumed, and the lists its length. -/
theorem lengthIsToldByFirstByte : Obligations.LengthIsToldByFirstByte := by
  intro op tl
  have hcases := lengthOf_cases op
  refine ⟨fun i rest h => ?_, fun h => ?_, Iff.trans ?_ (toNat_mem_map (l := threeByteOpcodes)).symm,
    Iff.trans ?_ (toNat_mem_map (l := twoByteOpcodes)).symm, by omega⟩
  · obtain ⟨n, v, -, hbs⟩ := decode_eq_ok h
    have hl := congrArg List.length hbs
    rw [List.length_cons, List.length_append, length_bytes] at hl
    omega
  · obtain ⟨n, v, rest, hbs⟩ := Entry.exists_bytes ((length_bytes op 0 0).trans_le h)
    exact ⟨_, rest, hbs ▸ decode_bytes op n v rest⟩
  · rcases hcases with ⟨h3, -, h⟩ | ⟨h3, -, h⟩ | ⟨h3, -, h⟩ <;> simp [h3, h]
  · rcases hcases with ⟨-, h2, h⟩ | ⟨-, h2, h⟩ | ⟨-, h2, h⟩ <;> simp [h2, h]

/-- Settles O10: the handler is the raise. -/
theorem illegalRowStops : Obligations.IllegalRowStops := fun _ _ => rfl

/-- Settles O9: only a well-formed illegal row decodes, and the step fetches one byte and runs it. -/
theorem illegalBytesAreFatal : Obligations.IllegalBytesAreFatal := by
  refine fun op tl => ⟨⟨fun h => ?_, fun h => ?_⟩, fun h s hs hr => ?_⟩
  · obtain ⟨hwf, -⟩ := encode_of_decode h
    exact toNat_mem_map.2 (List.contains_iff_mem.1 hwf)
  · exact decode_illegal (toNat_mem_map.1 h) tl
  · obtain ⟨hf, hh⟩ := hs
    rw [step_running hf hh, fetchInstr_illegal (toNat_mem_map.1 h) hr]
    exact congrArg (endStep _) (illegalRowStops op _)

/-- Settles O3, by decoding the words. -/
theorem encodedWordsDecode : Obligations.EncodedWordsDecode := ⟨rfl, rfl, rfl, rfl, rfl, rfl, rfl⟩

/-- Settles O5: the prefixed row of the second byte has the form its fields select. -/
theorem prefixedMapIsTotal : Obligations.PrefixedMapIsTotal := by
  refine fun y z rest => ⟨⟨_, rfl, ?_⟩, ⟨_, rfl, ?_⟩, ⟨_, rfl, ?_⟩, ⟨_, rfl, ?_⟩⟩ <;>
    simp [prefixedRow_form, cbForm]

end Sys2Proof
end

section
/-! SUPPORT. The fetch by the entry of the opcode byte, what can raise in it and in an instruction,
and the cycle counts (40_engine.md R90-R100; 70_reset_and_hazards.md R324). -/

namespace Sys2Proof

open Sys2Proof.Machine Sys2Proof.Claims

/-! ### The fetch after the opcode byte -/

/-- What the fetch does once the dispatch check has passed: the operand bytes of the entry of the
opcode byte `op`, from the state with `pc` past that byte (R92, R93). -/
def Entry.fetch (op : Byte) (s : State) : Entry → Exec (Instr × State)
  | .op i => .ok (i, s)
  | .imm8 f => do
    let n ← fetchByte s
    return (f n.1, n.2)
  | .imm16 f => do
    let v ← fetchWord s
    return (f v.1, v.2)
  | .cb => do
    let n ← fetchByte s
    return (prefixedRow n.1, n.2)
  | .illegal => .ok (.illegal op, s)

section
variable {s : State} {op : Byte} {k : Fatal}

theorem fetchInstr_opcode_error (h : s.bus.read s.pc = .error k) : fetchInstr s = .error (k, s) := by
  rw [fetchInstr, fetchByte_error h]
  rfl

theorem fetchInstr_handled (hr : s.bus.read s.pc = .ok op)
    (h : handled s.cfg.handledSet op = true) :
    fetchInstr s = (opcodeEntry op).fetch op { s with pc := s.pc + 1 } := by
  rw [fetchInstr, fetchByte_ok hr, Exec.ok_bind, if_pos h]
  cases opcodeEntry op <;> rfl

theorem fetchInstr_unhandled (hr : s.bus.read s.pc = .ok op)
    (h : handled s.cfg.handledSet op = false) :
    fetchInstr s = .error (.unimplementedOpcode op, { s with pc := s.pc + 1 }) := by
  rw [fetchInstr, fetchByte_ok hr, Exec.ok_bind, if_neg (by simp [h])]
  rfl

theorem fetchWord_ok {lo hi : Byte} (hl : s.bus.read s.pc = .ok lo)
    (hh : s.bus.read (s.pc + 1) = .ok hi) :
    fetchWord s = .ok (wordOf hi lo, { s with pc := s.pc + 1 + 1 }) := by
  rw [fetchWord, fetchByte_ok hl, Exec.ok_bind, fetchByte_ok (s := { s with pc := s.pc + 1 }) hh]
  rfl

theorem fetchWord_error_low (h : s.bus.read s.pc = .error k) : fetchWord s = .error (k, s) := by
  rw [fetchWord, fetchByte_error h]
  rfl

theorem fetchWord_error_high {lo : Byte} (hl : s.bus.read s.pc = .ok lo)
    (h : s.bus.read (s.pc + 1) = .error k) :
    fetchWord s = .error (k, { s with pc := s.pc + 1 }) := by
  rw [fetchWord, fetchByte_ok hl, Exec.ok_bind, fetchByte_error (s := { s with pc := s.pc + 1 }) h]
  rfl

/-- With its operand bytes readable an entry's fetch gives its instruction, `pc` past them. -/
theorem Entry.fetch_ok (e : Entry) (n : Byte) (v : Word)
    (h : BytesAt s.bus s.pc (e.bytes op n v).tail) :
    e.fetch op s =
      .ok (e.instr op n v, { s with pc := s.pc + BitVec.ofNat 16 (e.bytes op n v).tail.length }) := by
  cases e with
  | op i => simp [Entry.fetch, Entry.instr, Entry.bytes]
  | illegal => simp [Entry.fetch, Entry.instr, Entry.bytes]
  | imm8 f =>
    obtain ⟨hn, -⟩ := h
    rw [Entry.fetch, fetchByte_ok hn]
    rfl
  | cb =>
    obtain ⟨hn, -⟩ := h
    rw [Entry.fetch, fetchByte_ok hn]
    rfl
  | imm16 f =>
    obtain ⟨hl, hh, -⟩ := h
    rw [Entry.fetch, fetchWord_ok hl hh, wordOf_hiByte_loByte, BitVec.add_assoc]
    rfl

/-- An entry with an operand byte raises where the first of them is refused. -/
theorem Entry.fetch_error_second {e : Entry} {n : Byte} {v : Word}
    (hlen : 1 < (e.bytes op n v).length) (h : s.bus.read s.pc = .error k) :
    e.fetch op s = .error (k, s) := by
  cases e with
  | op | illegal => exact absurd hlen (Nat.lt_irrefl 1)
  | imm8 | cb =>
    rw [Entry.fetch, fetchByte_error h]
    rfl
  | imm16 =>
    rw [Entry.fetch, fetchWord_error_low h]
    rfl

/-- An entry with an operand word raises where its second byte is refused. -/
theorem Entry.fetch_error_third {e : Entry} {n lo : Byte} {v : Word}
    (hlen : (e.bytes op n v).length = 3) (hl : s.bus.read s.pc = .ok lo)
    (h : s.bus.read (s.pc + 1) = .error k) :
    e.fetch op s = .error (k, { s with pc := s.pc + 1 }) := by
  cases e with
  | op | illegal | imm8 | cb => cases hlen
  | imm16 =>
    rw [Entry.fetch, fetchWord_error_high hl h]
    rfl

/-! ### The fetch of an instruction -/

theorem handled_of_full_or_not_mem {hs : HandledSet}
    (h : hs = .full ∨ op ∉ controlFlowOpcodes) : handled hs op = true := by
  rcases h with rfl | h
  · rfl
  · cases hs <;> simp [handled, h]

theorem handled_docMinimum (h : op ∈ controlFlowOpcodes) : handled .docMinimum op = false := by
  simp [handled, h]

/-- The bytes at `pc` that decode to an instruction are fetched as that instruction, `pc` past
them (R90-R93). -/
theorem fetchInstr_of_decode {tl : List Byte} {i : Instr} (hb : BytesAt s.bus s.pc (op :: tl))
    (hd : decode (op :: tl) = .ok (i, [])) (h : handled s.cfg.handledSet op = true) :
    fetchInstr s = .ok (i, { s with pc := s.pc + BitVec.ofNat 16 (tl.length + 1) }) := by
  obtain ⟨hop, htl⟩ := hb
  obtain ⟨n, v, rfl, hbytes⟩ := decode_eq_ok hd
  have htail : tl = ((opcodeEntry op).bytes op n v).tail :=
    congrArg List.tail (hbytes.trans (List.append_nil _))
  rw [fetchInstr_handled hop h]
  rw [htail] at htl ⊢
  rw [Entry.fetch_ok (s := { s with pc := s.pc + 1 }) _ n v htl, BitVec.add_assoc,
    Nat.add_comm, BitVec.ofNat_add]
  rfl

theorem fetchInstr_error_second (hr : s.bus.read s.pc = .ok op)
    (h : handled s.cfg.handledSet op = true) (hlen : 1 < lengthOf op)
    (hk : s.bus.read (s.pc + 1) = .error k) :
    fetchInstr s = .error (k, { s with pc := s.pc + 1 }) := by
  rw [← length_bytes op 0 0] at hlen
  rw [fetchInstr_handled hr h]
  exact Entry.fetch_error_second hlen hk

theorem fetchInstr_error_third {lo : Byte} (hr : s.bus.read s.pc = .ok op)
    (h : handled s.cfg.handledSet op = true) (hlen : lengthOf op = 3)
    (hl : s.bus.read (s.pc + 1) = .ok lo) (hk : s.bus.read (s.pc + 1 + 1) = .error k) :
    fetchInstr s = .error (k, { s with pc := s.pc + 1 + 1 }) := by
  rw [← length_bytes op 0 0] at hlen
  rw [fetchInstr_handled hr h]
  exact Entry.fetch_error_third (s := { s with pc := s.pc + 1 }) hlen hl hk
end

/-! ### The step by its fetch -/

section
variable {s : State}

theorem step_fetch_error {u : State} {k : Fatal} (hs : Running s)
    (h : fetchInstr s = .error (k, u)) : step s = .fault (.fatal k { u with faulted := true }) := by
  obtain ⟨hf, hh⟩ := hs
  rw [step_running hf hh, h]
  rfl

theorem step_fetch_ok {u : State} {i : Instr} (hs : Running s) (h : fetchInstr s = .ok (i, u)) :
    step s = endStep s.imePending (exec i u) := by
  obtain ⟨hf, hh⟩ := hs
  rw [step_running hf hh, h]

/-- Under `doc_minimum` a control-flow opcode is fetched and raises (R95). -/
theorem step_unimplementedOpcode {op : Byte} (hs : Running s) (hr : s.bus.read s.pc = .ok op)
    (hdoc : s.cfg.handledSet = .docMinimum) (hop : op ∈ controlFlowOpcodes) :
    step s = .fault (.fatal (.unimplementedOpcode op) { s with pc := s.pc + 1, faulted := true }) :=
  step_fetch_error hs (fetchInstr_unhandled hr (by rw [hdoc, handled_docMinimum hop]))

/-! ### The conditions a fetch and an instruction raise -/

theorem tames_fetchByte (s : State) : Tames s Prod.snd (fetchByte s) :=
  (tames_load s _).bind fun _ _ => tame_pc s _

theorem tames_fetchWord (s : State) : Tames s Prod.snd (fetchWord s) :=
  (tames_fetchByte s).bind fun lo hlo => ((tames_fetchByte lo.2).from hlo).bind fun _ hhi => hhi

theorem Entry.tames_fetch (e : Entry) (op : Byte) (s : State) : Tames s Prod.snd (e.fetch op s) := by
  cases e with
  | op | illegal => exact Tame.refl s
  | imm8 | cb => exact (tames_fetchByte s).bind fun _ hn => hn
  | imm16 => exact (tames_fetchWord s).bind fun _ hv => hv

/-- Past the dispatch check a fetch raises a bus error and nothing else. -/
theorem fetchInstr_handled_isBusError {op : Byte} {e : Fatal × State}
    (hr : s.bus.read s.pc = .ok op) (h : handled s.cfg.handledSet op = true)
    (he : fetchInstr s = .error e) : e.1.isBusError = true := by
  have ht := (opcodeEntry op).tames_fetch op { s with pc := s.pc + 1 }
  rw [← fetchInstr_handled hr h, he] at ht
  obtain ⟨hbus, -⟩ := ht
  exact hbus

/-- An instruction raises a bus error, or it is an illegal byte's row (R94). -/
theorem exec_fatal_kind {i : Instr} {t : State} {k : Fatal} (h : exec i s = .fault (.fatal k t)) :
    k.isBusError = true ∨ ∃ op, i = .illegal op ∧ k = .invalidOpcode op := by
  cases hi : touchesEngine i.form with
  | false =>
    rcases exec_tame s hi with ⟨u, hu, -⟩ | ⟨k', u, hu, hk, -⟩ <;> rw [hu] at h <;> cases h
    exact .inl hk
  | true =>
    rcases eq_of_touchesEngine hi with rfl | ⟨n, rfl⟩ | rfl | rfl | rfl | ⟨op, rfl⟩
    case inr.inr.inr.inr.inl =>
      rcases execReti_cases s with ⟨u, hu, -⟩ | ⟨k', u, hu, hk, -⟩ <;> cases hu.symm.trans h
      exact .inl hk
    all_goals cases h
    exact .inr ⟨op, rfl, rfl⟩

/-- A step past the dispatch check never raises `UnimplementedOpcode` (R95). -/
theorem step_ne_unimplementedOpcode {op op' : Byte} {t : State} (hr : s.bus.read s.pc = .ok op)
    (h : handled s.cfg.handledSet op = true) :
    step s ≠ .fault (.fatal (.unimplementedOpcode op') t) := by
  intro hstep
  rcases step_eq_fault hstep with ⟨-, hk⟩ | ⟨-, -, ⟨k, p, hi, hk⟩ | ⟨i, p, -, hx⟩⟩
  · cases hk
  · cases hk
    cases fetchInstr_handled_isBusError hr h hi
  · rcases exec_fatal_kind hx with hk | ⟨_, -, hk⟩ <;> cases hk
end

/-! ### The control-flow opcodes -/

theorem isControlFlow_cbForm (op2 : Byte) : isControlFlow (cbForm op2) = false := by
  unfold cbForm
  split <;> rfl

/-- The list of R95 is the entries whose instruction is control flow: a walk through the map, of
which 0xCB stands for the prefixed map. -/
theorem isControlFlow_opcodeEntry (op n : Byte) (v : Word) :
    isControlFlow ((opcodeEntry op).instr op n v).form = controlFlowOpcodes.contains op := by
  obtain ⟨h, l, rfl⟩ := exists_nibbles op
  fin_cases h <;> fin_cases l
  -- The entry of 0xCB = 203 is the 204th goal.
  pick_goal 204
  · exact (congrArg isControlFlow (prefixedRow_form n)).trans (isControlFlow_cbForm n)
  all_goals rfl

/-! ### The cycle counts -/

/-- A count of R324: positive, in whole machine cycles, at most the highest. -/
abbrev IsCycleCount (n : Nat) : Prop := 0 < n ∧ n % 4 = 0 ∧ n ≤ 24

theorem isCycleCount_opndCycles (o : Opnd) {m n : Nat} (hm : IsCycleCount m)
    (hn : IsCycleCount n) : IsCycleCount (opndCycles o m n) := by
  cases o with
  | reg => exact hm
  | mhl => exact hn

theorem isCycleCount_condCycles (f : Byte) (cc : Cond) {m n : Nat} (hm : IsCycleCount m)
    (hn : IsCycleCount n) : IsCycleCount (condCycles f cc m n) := by
  unfold condCycles
  split
  · exact hm
  · exact hn

/-- Every form but an illegal byte's has a count (R99). -/
theorem formCycles_cases (f : Byte) (g : Form) :
    (∃ op, g = .illegal op) ∨ ∃ n, formCycles f g = some n ∧ IsCycleCount n := by
  cases g
  case illegal op => exact .inl ⟨op, rfl⟩
  case alu op y => cases y <;> exact .inr ⟨_, rfl, by decide⟩
  case inc8 o | dec8 o | rot _ o | bit _ o | res _ o | set _ o =>
    exact .inr ⟨_, rfl, isCycleCount_opndCycles o (by decide) (by decide)⟩
  case jrcc cc _ | jpcc cc _ | callcc cc _ | retcc cc =>
    exact .inr ⟨_, rfl, isCycleCount_condCycles f cc (by decide) (by decide)⟩
  all_goals exact .inr ⟨_, rfl, by decide⟩

/-- A completed instruction has a count. -/
theorem formCycles_of_exec_next {i : Instr} {s t : State} (h : exec i s = .next t) :
    ∃ n, formCycles s.f i.form = some n ∧ IsCycleCount n := by
  rcases formCycles_cases s.f i.form with ⟨op, hi⟩ | hn
  · rw [exec_eq_runForm, hi] at h
    cases h
  · exact hn

/-- A completed step returns a count: 4 when idle, else that of the fetched instruction's form with the
F it executes with (R96, R99). -/
theorem stepReturn_of_next {s t : State} (h : step s = .next t) :
    ∃ n, stepReturn s = .ok n ∧ IsCycleCount n ∧
      ∀ i u, Running s → fetchInstr s = .ok (i, u) → formCycles u.f i.form = some n := by
  obtain ⟨hf, ⟨hh, -⟩ | ⟨hh, i, p, u, hi, hx, -⟩⟩ := step_eq_next h
  · refine ⟨4, stepReturn_halted hf hh, by decide, fun _ _ ⟨_, hr⟩ => ?_⟩
    cases hh.symm.trans hr
  · obtain ⟨n, hn, hcount⟩ := formCycles_of_exec_next hx
    refine ⟨n, stepReturn_executed hf hh hi hx hn, hcount, fun j w _ hj => ?_⟩
    cases hi.symm.trans hj
    exact hn

/-- The three kinds of step with what each answers and returns: none from `Faulted`, a completed one,
a raising one (R97, R99, R100). -/
theorem step_stepReturn_cases (s : State) :
    (s.faulted = true ∧ step s = .fault .noStepFromFaulted ∧ stepReturn s = .noStep) ∨
      (s.faulted = false ∧ ∃ t n, step s = .next t ∧ stepReturn s = .ok n) ∨
      (s.faulted = false ∧ ∃ k t, step s = .fault (.fatal k t) ∧ stepReturn s = .err k) := by
  rcases Bool.eq_false_or_eq_true s.faulted with hf | hf
  · exact .inl ⟨hf, step_faulted hf, stepReturn_faulted hf⟩
  cases h : step s with
  | next t =>
    obtain ⟨n, hn, -⟩ := stepReturn_of_next h
    exact .inr (.inl ⟨hf, t, n, rfl, hn⟩)
  | fault r =>
    obtain ⟨k, t, rfl⟩ := step_fault_is_fatal hf h
    exact .inr (.inr ⟨hf, k, t, rfl, stepReturn_of_fatal h⟩)
  | refused r => exact absurd h (step_ne_refused s r)

end Sys2Proof
end

section
/-! SUPPORT. Where a run ends, act by act (40_engine.md R102). -/

namespace Sys2Proof.Machine

open Sys2Proof.Claims

section
variable {s t u : State} {acts before : List RunAct}

/-! ### Runs of acts -/

theorem runActs_step (h : step s = .next u) : runActs (.step :: acts) s = runActs acts u := by
  simp [runActs, h]

theorem runActs_fault {r : Fault} (h : step s = .fault r) :
    runActs (.step :: acts) s = .fault r := by
  simp [runActs, h]

theorem runActs_step_eq_next :
    runActs (.step :: acts) s = .next t ↔ ∃ u, step s = .next u ∧ runActs acts u = .next t := by
  rw [runActs]
  cases step s <;> simp

theorem core_run_step (n : Nat) (h : Sys2Proof.core.step s = .next u) :
    Sys2Proof.core.run (n + 1) s = Sys2Proof.core.run n u := by simp only [Host.Core.run, h]

theorem core_run_fault (n : Nat) {r : Fault} (h : Sys2Proof.core.step s = .fault r) :
    Sys2Proof.core.run (n + 1) s = .fault r := by simp only [Host.Core.run, h]

theorem runActs_replicate_step (n : Nat) (s : State) :
    runActs (List.replicate n .step) s = Sys2Proof.core.run n s := by
  induction n generalizing s with
  | zero => rfl
  | succ n ih =>
    rw [List.replicate_succ]
    cases h : step s with
    | next u => exact ((runActs_step h).trans (ih u)).trans (core_run_step n h).symm
    | fault r => exact (runActs_fault h).trans (core_run_fault n h).symm
    | refused r => exact absurd h (step_ne_refused s r)

theorem core_run_halted (hf : s.faulted = false) (hh : s.halted = true) (n : Nat) :
    Sys2Proof.core.run n s = .next s := by
  induction n with
  | zero => rfl
  | succ n ih => exact (core_run_step n (step_halted hf hh)).trans ih

/-! ### The run to an end condition -/

theorem runTo_met {e : EndCondition} (h : e.metAt s acts.head? = true) :
    runTo acts e s = .met s := by
  cases acts <;> exact if_pos h

theorem runTo_host {e : EndCondition} {op : HostOp}
    (h : e.metAt s (some (.host op)) = false) :
    runTo (.host op :: acts) e s = runTo acts e (op.perform s).2 := by
  simp [runTo, h]

theorem runTo_step_eq_met {e : EndCondition} (h : e.metAt s (some .step) = false) :
    runTo (.step :: acts) e s = .met t ↔
      ∃ u, step s = .next u ∧ runTo acts e.afterStep u = .met t := by
  rw [runTo, if_neg (by simp [h])]
  cases step s <;> simp

/-! ### A step count -/

/-- The acts up to and including the `n`th step. -/
def UpToStep (n : Nat) (before : List RunAct) : Prop :=
  before.count .step = n ∧ (before = [] ∨ before.getLast? = some .step)

theorem upToStep_zero : UpToStep 0 before ↔ before = [] := by
  refine ⟨fun ⟨hcount, hlast⟩ => hlast.resolve_right fun h => ?_, fun h => ⟨by rw [h]; rfl, .inl h⟩⟩
  exact List.count_eq_zero.1 hcount (List.mem_of_getLast? h)

theorem not_upToStep_succ_nil {n : Nat} : ¬UpToStep (n + 1) [] := nofun

theorem upToStep_step {n : Nat} : UpToStep (n + 1) (.step :: before) ↔ UpToStep n before := by
  cases before <;> simp [UpToStep, eq_comm]

theorem upToStep_host {n : Nat} {op : HostOp} :
    UpToStep (n + 1) (.host op :: before) ↔ UpToStep (n + 1) before := by
  cases before <;> simp [UpToStep]

theorem runTo_afterSteps_zero_eq_met (acts : List RunAct) (s t : State) :
    runTo acts (.afterSteps 0) s = .met t ↔
      ∃ before after, acts = before ++ after ∧ UpToStep 0 before ∧ runActs before s = .next t := by
  rw [runTo_met rfl]
  simp [upToStep_zero, runActs]

theorem runTo_afterSteps_eq_met (n : Nat) (acts : List RunAct) (s t : State) :
    runTo acts (.afterSteps n) s = .met t ↔
      ∃ before after, acts = before ++ after ∧ UpToStep n before ∧ runActs before s = .next t := by
  induction acts generalizing n s with
  | nil =>
    cases n with
    | zero => exact runTo_afterSteps_zero_eq_met _ s t
    | succ n => simp [runTo, EndCondition.metAt, not_upToStep_succ_nil]
  | cons act acts ih =>
    cases n with
    | zero => exact runTo_afterSteps_zero_eq_met _ s t
    | succ n =>
      cases act with
      | host op =>
        rw [runTo_host rfl, ih]
        constructor
        · rintro ⟨before, after, rfl, hn, hr⟩
          exact ⟨.host op :: before, after, rfl, upToStep_host.2 hn, hr⟩
        · rintro ⟨_ | ⟨_, before⟩, after, happ, hn, hr⟩
          · cases not_upToStep_succ_nil hn
          · cases happ
            exact ⟨before, after, rfl, upToStep_host.1 hn, hr⟩
      | step =>
        rw [runTo_step_eq_met rfl]
        constructor
        · rintro ⟨u, hu, hmet⟩
          obtain ⟨before, after, rfl, hn, hr⟩ := (ih n u).1 hmet
          exact ⟨.step :: before, after, rfl, upToStep_step.2 hn, (runActs_step hu).trans hr⟩
        · rintro ⟨_ | ⟨_, before⟩, after, happ, hn, hr⟩
          · cases not_upToStep_succ_nil hn
          · cases happ
            obtain ⟨u, hu, hr⟩ := runActs_step_eq_next.1 hr
            exact ⟨u, hu, (ih n u).2 ⟨before, after, rfl, upToStep_step.1 hn, hr⟩⟩

/-! ### A fetch address -/

/-- The engine is where its next step fetches at `a`. -/
def FetchesAt (a : Word) (s : State) : Prop := s.faulted = false ∧ s.halted = false ∧ s.pc = a

theorem metAt_atFetch_step {a : Word} :
    (EndCondition.atFetch a).metAt s (some .step) = true ↔ FetchesAt a s := by
  simp [EndCondition.metAt, State.fetchAddress, FetchesAt, and_assoc]

/-- No step of the acts begins where it fetches at `a`. -/
def NoFetchAt (a : Word) (s : State) (acts : List RunAct) : Prop :=
  ∀ p q u, acts = p ++ .step :: q → runActs p s = .next u → ¬FetchesAt a u

theorem noFetchAt_nil (a : Word) (s : State) : NoFetchAt a s [] := by simp [NoFetchAt]

theorem noFetchAt_host {a : Word} {op : HostOp} :
    NoFetchAt a s (.host op :: acts) ↔ NoFetchAt a (op.perform s).2 acts := by
  constructor
  · intro h p q u hp hr
    exact h (.host op :: p) q u (congrArg _ hp) hr
  · rintro h (_ | ⟨_, p⟩) q u hp hr
    · cases hp
    · cases hp
      exact h p q u rfl hr

theorem noFetchAt_step {a : Word} (hu : step s = .next u) :
    NoFetchAt a s (.step :: acts) ↔ ¬FetchesAt a s ∧ NoFetchAt a u acts := by
  constructor
  · intro h
    exact ⟨h [] acts s rfl rfl, fun p q w hp hr =>
      h (.step :: p) q w (congrArg _ hp) ((runActs_step hu).trans hr)⟩
  · rintro ⟨hs, h⟩ (_ | ⟨_, p⟩) q w hp hr
    · cases hr
      exact hs
    · cases hp
      exact h p q w rfl ((runActs_step hu).symm.trans hr)

theorem runTo_atFetch_eq_met (a : Word) (acts : List RunAct) (s t : State) :
    runTo acts (.atFetch a) s = .met t ↔
      ∃ before after, acts = before ++ .step :: after ∧ runActs before s = .next t ∧
        FetchesAt a t ∧ NoFetchAt a s before := by
  induction acts generalizing s with
  | nil => simp [runTo, EndCondition.metAt]
  | cons act acts ih =>
    cases act with
    | host op =>
      rw [runTo_host rfl, ih]
      constructor
      · rintro ⟨before, after, rfl, hr, ht, hno⟩
        exact ⟨.host op :: before, after, rfl, hr, ht, noFetchAt_host.2 hno⟩
      · rintro ⟨_ | ⟨_, before⟩, after, happ, hr, ht, hno⟩
        · cases happ
        · cases happ
          exact ⟨before, after, rfl, hr, ht, noFetchAt_host.1 hno⟩
    | step =>
      by_cases hs : FetchesAt a s
      · rw [runTo_met (metAt_atFetch_step.2 hs)]
        constructor
        · intro h
          cases h
          exact ⟨[], acts, rfl, rfl, hs, noFetchAt_nil a _⟩
        · rintro ⟨_ | ⟨_, before⟩, after, happ, hr, ht, hno⟩
          · cases hr
            rfl
          · cases happ
            cases hno [] before s rfl rfl hs
      · rw [runTo_step_eq_met (Bool.eq_false_iff.2 (mt metAt_atFetch_step.1 hs))]
        constructor
        · rintro ⟨u, hu, hmet⟩
          obtain ⟨before, after, rfl, hr, ht, hno⟩ := (ih u).1 hmet
          exact ⟨.step :: before, after, rfl, (runActs_step hu).trans hr, ht,
            (noFetchAt_step hu).2 ⟨hs, hno⟩⟩
        · rintro ⟨_ | ⟨_, before⟩, after, happ, hr, ht, hno⟩
          · cases hr
            cases hs ht
          · cases happ
            obtain ⟨u, hu, hr⟩ := runActs_step_eq_next.1 hr
            obtain ⟨-, hno⟩ := (noFetchAt_step hu).1 hno
            exact ⟨u, hu, (ih u).2 ⟨before, after, rfl, hr, ht, hno⟩⟩
end

end Sys2Proof.Machine
end

section
/-! PROOFS. The obligations about the engine (40_engine.md), assembled from the lemmas above. -/

namespace Sys2Proof

open Sys2Proof.Machine Sys2Proof.Claims

/-- Settles O6: the prefixed row's form is the one that the second byte of PREFIX CB selects. -/
theorem prefixRunsItsRow : Obligations.PrefixRunsItsRow := by
  intro op2 s
  rw [exec_eq_runForm, exec_eq_runForm, prefixedRow_form]
  rfl

/-- Settles O7: the fetch gives the decoded instruction, and the step runs it and promotes. -/
theorem stepRunsDecodedInstruction : Obligations.StepRunsDecodedInstruction := by
  intro s op tl i hs hb hd h
  rw [step_fetch_ok hs (fetchInstr_of_decode hb hd (handled_of_full_or_not_mem h))]
  rfl

/-- Settles O8: the fetch raises at the opcode byte. -/
theorem fetchFaultLeavesPc : Obligations.FetchFaultLeavesPc :=
  fun _ _ hs h => step_fetch_error hs (fetchInstr_opcode_error h)

/-- Settles O11: the opcode map says which opcodes are control flow, the dispatch check raises for
them, and nothing after it raises `UnimplementedOpcode`. -/
theorem handledSetSelectsControlFlow : Obligations.HandledSetSelectsControlFlow := by
  refine ⟨fun op tl i rest h => ?_, fun s op => step_unimplementedOpcode,
    fun s op hr h op' t => step_ne_unimplementedOpcode hr (handled_of_full_or_not_mem h)⟩
  obtain ⟨n, v, rfl, -⟩ := decode_eq_ok h
  rw [isControlFlow_opcodeEntry, List.contains_iff_mem]

/-- Settles O12: an idle step answers the same state, and so do any number of them. -/
theorem haltedEngineIdles : Obligations.HaltedEngineIdles :=
  fun _ hf hh => ⟨step_halted hf hh, stepReturn_halted hf hh, core_run_halted hf hh⟩

/-- Settles O16, by the three kinds of step. -/
theorem stepReturnsCyclesOrFatal : Obligations.StepReturnsCyclesOrFatal := by
  intro s
  rcases step_stepReturn_cases s with ⟨hf, hs, hr⟩ | ⟨hf, t, n, hs, hr⟩ | ⟨hf, k, t, hs, hr⟩
  · simp [hf, hs, hr]
  · obtain ⟨m, hm, hcount, hform⟩ := stepReturn_of_next hs
    cases hr.symm.trans hm
    refine ⟨⟨fun _ => ⟨t, hs⟩, fun _ => ⟨n, hr⟩⟩, fun m hm => ?_, by simp [hs, hr], by simp [hf, hr],
      fun i u _ hrun hi _ => ⟨n, hform i u hrun hi, hr⟩⟩
    cases hr.symm.trans hm
    exact hcount
  · simp [hf, hs, hr]

/-- Settles O57: past the dispatch check the fetch raises at the refused operand byte, and the check
itself reads no operand byte. -/
theorem operandFetchFaults : Obligations.OperandFetchFaults := by
  refine fun s op hs hr => ⟨fun h k => ?_, step_unimplementedOpcode hs hr⟩
  have hh := handled_of_full_or_not_mem h
  refine ⟨fun hlen hk => step_fetch_error hs (fetchInstr_error_second hr hh hlen hk), ?_⟩
  intro hlen v hl hk
  rw [show s.pc + 2 = s.pc + 1 + 1 from (BitVec.add_assoc _ 1 1).symm] at hk ⊢
  exact step_fetch_error hs (fetchInstr_error_third hr hh hlen hl hk)

/-- Settles O60, by the acts of the run in the two lemmas about `runTo`. -/
theorem runEndsWhereStated : Obligations.RunEndsWhereStated := by
  refine ⟨fun n acts s t => ?_, fun a acts s t => ?_, runActs_replicate_step⟩
  · simpa only [UpToStep, and_assoc] using runTo_afterSteps_eq_met n acts s t
  · simpa only [FetchesAt, NoFetchAt, and_assoc] using runTo_atFetch_eq_met a acts s t

end Sys2Proof
end

section
/-! SUPPORT. What the ALU primitives answer, as numbers and as flags (41_alu.md R111-R131). -/

namespace Sys2Proof.Machine

open Sys2Proof.Claims

/-! ### The flags of a state -/

section
variable {s t : State} {z n h c : Bool}

theorem flagsAre_of_putFlags (hf : t.f = putFlags s.f z n h c) : FlagsAre s t z n h c := by
  simp only [FlagsAre, State.flag, hf, getFlag_putFlags, true_and]
  exact lowF_putFlags s.f z n h c

/-- INC, DEC and BIT write Z, N and H and keep C (R115, R116, R129). -/
theorem flagsAre_of_putFlag_znh (hf : t.f = putFlag (putFlag (putFlag s.f .z z) .n n) .h h) :
    FlagsAre s t z n h (s.flag .c) := by
  have hlow : lowF t.f = lowF s.f := by simp only [hf, lowF_putFlag]
  refine ⟨?_, ?_, ?_, ?_, hlow⟩ <;> simp [State.flag, hf]
end

/-! ### Byte addition and subtraction -/

section
variable (rule : SbcHRule) (f x y : Byte) (u : Bool)

theorem addBytes_toNat :
    (addBytes f x y u).1.toNat = (x.toNat + y.toNat + (carryIn f u).toNat) % 256 :=
  (add_accumulator x y (carryIn f u)).1

theorem addBytes_flags :
    (addBytes f x y u).2 = putFlags f ((addBytes f x y u).1 == 0#8) false
      (decide (x.toNat % 16 + y.toNat % 16 + (carryIn f u).toNat > 15))
      (decide (x.toNat + y.toNat + (carryIn f u).toNat > 255)) := by
  obtain ⟨-, hc, hh⟩ := add_accumulator x y (carryIn f u)
  rw [← hc, ← hh]
  rfl

theorem subBytes_toNat :
    (subBytes rule f x y u).1.toNat =
      (x.toNat + 256 - (y.toNat + (carryIn f u).toNat) % 256) % 256 :=
  (sub_accumulator x y (carryIn f u)).1

theorem subBytes_flags :
    (subBytes rule f x y u).2 = putFlags f ((subBytes rule f x y u).1 == 0#8) true
      (halfBorrow rule x y (carryIn f u)) (decide (y.toNat + (carryIn f u).toNat > x.toNat)) := by
  obtain ⟨-, hc⟩ := sub_accumulator x y (carryIn f u)
  rw [← hc]
  rfl

@[simp] theorem carryIn_false : carryIn f false = false := rfl

/-- Without a carry, `add_bytes` is the wrapped sum (R131). -/
theorem addBytes_false_fst : (addBytes f x y false).1 = x + y := by
  apply BitVec.eq_of_toNat_eq
  simp [addBytes_toNat]

/-- Without a carry, `sub_bytes` is the wrapped difference (R131). -/
theorem subBytes_false_fst : (subBytes rule f x y false).1 = x - y := by
  have hx := x.isLt
  have hy := y.isLt
  apply BitVec.eq_of_toNat_eq
  simp only [subBytes_toNat, carryIn_false, Bool.toNat_false, BitVec.toNat_sub]
  omega
end

/-- A byte is zero when its number is. -/
theorem beq_zero_eq_toNat (v : Byte) : (v == 0#8) = (v.toNat == 0) := by
  rw [Bool.eq_iff_iff, beq_iff_eq, beq_iff_eq, ← BitVec.toNat_inj]
  rfl

/-! ### Increment, decrement, bit test -/

section
variable {s t : State} {v : Byte}

theorem flagsAre_of_incByte (hf : t.f = (incByte s.f v).2) :
    FlagsAre s t (v.toNat == 255) false (decide (v.toNat % 16 = 15)) (s.flag .c) := by
  have hv := v.isLt
  have hz : (v.toNat == 255) = (v + 1 == 0) := by
    rw [Bool.eq_iff_iff, beq_iff_eq, beq_iff_eq]
    bv_omega
  have hh : decide (v.toNat % 16 = 15) = decide (v.toNat % 16 + 1 > 15) := by
    rw [decide_eq_decide]
    omega
  rw [hz, hh]
  exact flagsAre_of_putFlag_znh hf

theorem flagsAre_of_decByte (hf : t.f = (decByte s.f v).2) :
    FlagsAre s t (v.toNat == 1) true (decide (v.toNat % 16 = 0)) (s.flag .c) := by
  have hz : (v.toNat == 1) = (v - 1 == 0) := by
    rw [Bool.eq_iff_iff, beq_iff_eq, beq_iff_eq]
    bv_omega
  rw [hz]
  exact flagsAre_of_putFlag_znh hf

theorem flagsAre_of_bitTest {b : Fin 8} (hf : t.f = bitTest s.f b v) :
    FlagsAre s t (v.toNat / 2 ^ b.val % 2 == 0) false true (s.flag .c) := by
  have hz : (v.toNat / 2 ^ b.val % 2 == 0) = !v.getLsbD b := by
    rw [BitVec.getLsbD, Nat.testBit_eq_decide_div_mod_eq, Bool.eq_iff_iff]
    simp
  rw [hz]
  exact flagsAre_of_putFlag_znh hf
end

/-! ### The stack pointer and a signed offset -/

theorem spPlusE8_fst (f : Byte) (sp : Word) (n : Byte) :
    (spPlusE8 f sp n).1 = BitVec.ofInt 16 (sp.toNat + n.toInt) := relTarget_eq sp n

/-! ### Decimal adjustment -/

/-- The adjustments of the two digits share no bit, so their union is their sum. -/
theorem toNat_daa_adjustment (low high : Bool) :
    ((if low then 0x06#8 else 0#8) ||| (if high then 0x60#8 else 0#8)).toNat =
      (if low then 6 else 0) + (if high then 0x60 else 0) := by
  cases low <;> cases high <;> rfl

/-- DAA after an addition (R130): both tests read the original A. -/
theorem daa_of_not_n {f : Byte} (a : Byte) (hn : getFlag f .n = false) :
    let low := getFlag f .h || decide (a.toNat % 16 > 9)
    let high := getFlag f .c || decide (a.toNat > 0x99)
    (daa f a).1.toNat =
      (a.toNat + ((if low then 6 else 0) + (if high then 0x60 else 0))) % 256 ∧
    getFlag (daa f a).2 .c = high := by
  intro low high
  have hadj : daaAdjust f a =
      ((if low then 0x06#8 else 0#8) ||| (if high then 0x60#8 else 0#8), high) := by
    rw [daaAdjust, if_neg (by simp [hn])]
  constructor
  · rw [daa, if_neg (by simp [hn]), hadj, BitVec.toNat_add, toNat_daa_adjustment]
  · rw [daa, hadj, getFlag_putFlag_same]

/-- The code of a two-digit number is its tens digit above its ones digit. -/
theorem bcd_toNat {n : Nat} (hn : n < 100) : (bcd n).toNat = n / 10 * 16 + n % 10 := by
  rw [bcd, BitVec.toNat_ofNat, Nat.mod_eq_of_lt (by omega)]

/-- The tests of DAA after the addition of two codes are the carries of the two decimal digits. -/
theorem daa_addBytes_bcd (f : Byte) {m n : Nat} (hm : m < 100) (hn' : n < 100) :
    let sum := addBytes f (bcd m) (bcd n) false
    (daa sum.2 sum.1).1.toNat = ((bcd m).toNat + (bcd n).toNat +
      ((if m % 10 + n % 10 ≥ 10 then 6 else 0) + (if m + n ≥ 100 then 0x60 else 0))) % 256 ∧
    getFlag (daa sum.2 sum.1).2 .c = decide (m + n ≥ 100) := by
  intro sum
  have hsum : sum.1.toNat = _ := addBytes_toNat f (bcd m) (bcd n) false
  have hflags : sum.2 = _ := addBytes_flags f (bcd m) (bcd n) false
  rw [carryIn_false, Bool.toNat_false, Nat.add_zero, bcd_toNat hm, bcd_toNat hn'] at hsum
  rw [carryIn_false, Bool.toNat_false, Nat.add_zero, Nat.add_zero, bcd_toNat hm, bcd_toNat hn']
    at hflags
  have hlow : (getFlag sum.2 .h || decide (sum.1.toNat % 16 > 9)) =
      decide (m % 10 + n % 10 ≥ 10) := by
    simp only [hflags, getFlag_putFlags, ← Bool.decide_or, decide_eq_decide]
    omega
  have hhigh : (getFlag sum.2 .c || decide (sum.1.toNat > 0x99)) = decide (m + n ≥ 100) := by
    simp only [hflags, getFlag_putFlags, ← Bool.decide_or, decide_eq_decide]
    have hdigits : m / 10 * 16 + m % 10 + (n / 10 * 16 + n % 10) > 0x99 ↔ m + n ≥ 100 := by omega
    rw [← hdigits, hsum]
    generalize m / 10 * 16 + m % 10 + (n / 10 * 16 + n % 10) = codes
    omega
  have hn : getFlag sum.2 .n = false := by rw [hflags, getFlag_putFlags]
  obtain ⟨ha, hc⟩ := daa_of_not_n sum.1 hn
  rw [hlow, hhigh, hsum, Nat.mod_add_mod] at ha
  rw [hhigh] at hc
  rw [bcd_toNat hm, bcd_toNat hn']
  simp only [decide_eq_true_eq] at ha
  exact ⟨ha, hc⟩

end Sys2Proof.Machine
end

section
/-! SUPPORT. What the instructions of the ALU families do, by form: the row, the faults of the
operand's read, the completed operation and its frame (41_alu.md; 44_alu8.md; 47_cb_prefixed.md). -/

namespace Sys2Proof.Machine

open Sys2Proof.Claims

/-! ### Frames -/

section
variable (s : State) (f : Byte)

theorem keepsButF_setAcc (r : Byte × Byte) : KeepsButF s (s.setAcc r) [.a] [] := by
  refine ⟨⟨fun q hq => ?_, fun _ _ => rfl, rfl, rfl, rfl, rfl, rfl⟩, rfl, rfl⟩
  cases q
  case a => simp at hq
  all_goals rfl

/-- Writing F alone. -/
theorem keepsButF_f : KeepsButF s { s with f := f } [] [] :=
  ⟨⟨fun q _ => by cases q <;> rfl, fun _ _ => rfl, rfl, rfl, rfl, rfl, rfl⟩, rfl, rfl⟩

/-- Writing F and one register operand. -/
theorem keepsButF_setReg (r : Reg) (v : Byte) :
    KeepsButF s (State.setReg { s with f := f } r v) [r] [] := by
  refine ⟨⟨fun q hq => ?_, fun _ _ => ?_, ?_, ?_, ?_, ?_, ?_⟩, ?_, ?_⟩
  case refine_1 =>
    rw [State.reg_setReg_other _ v (by simpa using hq)]
    cases q <;> rfl
  all_goals simp

/-- Writing F and the byte at an address. -/
theorem keepsButF_write {a : Word} {v : Byte} {b : Bus} (hb : s.bus.write a v = .ok b) :
    KeepsButF s { s with f := f, bus := b } [] [a] :=
  ⟨⟨fun q _ => by cases q <;> rfl,
    fun _ hx => Bus.read_write_other hb (hx a (List.mem_singleton_self a)), rfl, rfl, rfl, rfl,
    rfl⟩, rfl, rfl⟩

theorem keepsButF_setHL (v : Word) : KeepsButF s (State.setHL { s with f := f } v) [.h, .l] [] := by
  refine ⟨⟨fun q hq => ?_, fun _ _ => rfl, rfl, rfl, rfl, rfl, rfl⟩, rfl, rfl⟩
  cases q
  case h | l => simp at hq
  all_goals rfl

/-- Writing F and SP. -/
theorem frame_sp_f (v : Word) : Frame s { s with sp := v, f := f } [] [] :=
  ⟨fun q _ => by cases q <;> rfl, fun _ _ => rfl, rfl, rfl, rfl, rfl, rfl⟩
end

/-! ### Reading an operand -/

section
variable {i : Instr} {s : State} {o : Opnd} {y : Src} {v : Byte}

theorem readSrc_ok (hv : SrcIs s y v) : readSrc s y = .ok v := by
  cases y with
  | reg r => exact congrArg Except.ok hv.symm
  | mhl => exact readSrc_mhl_ok hv
  | imm n => exact congrArg Except.ok hv.symm

theorem readOpnd_ok (hv : OpndIs s o v) : readOpnd s o = .ok v := by
  cases o with
  | reg r => exact congrArg Except.ok hv.symm
  | mhl => exact readOpnd_mhl_ok hv

/-- An instruction that reads its operand first raises the read's condition with nothing done. -/
theorem srcFaults_of_exec {k : Byte → Exec State}
    (h : exec i s = finish (readSrc s y >>= k)) : SrcFaults i s y := by
  rintro e rfl he
  have hr : readSrc s .mhl = .error (e, s) := load_error he
  rw [FaultsAt, h, hr]
  rfl

theorem opndFaults_of_exec {k : Byte → Exec State}
    (h : exec i s = finish (readOpnd s o >>= k)) : OpndFaults i s o := by
  rintro e rfl he
  have hr : readOpnd s .mhl = .error (e, s) := load_error he
  rw [FaultsAt, h, hr]
  rfl

/-- A read-modify-write whose operand is readable completes: what is readable is writable. -/
theorem modifyOpnd_ok (op : Byte → Byte → Byte × Byte) (hv : OpndIs s o v) :
    ∃ t, modifyOpnd s o op = .ok t ∧ WritesBack s t o (op s.f v).1 ∧ t.f = (op s.f v).2 := by
  cases o with
  | reg r =>
    subst hv
    exact ⟨_, modifyOpnd_reg s r op, ⟨State.reg_setReg_same .., keepsButF_setReg ..⟩,
      State.setReg_f ..⟩
  | mhl =>
    obtain ⟨b, hb⟩ := s.bus.write_accessible (op s.f v).1 (Bus.read_ok_accessible hv)
    exact ⟨_, modifyOpnd_mhl_ok op hv hb, ⟨Bus.read_write_same hb, keepsButF_write s _ hb⟩, rfl⟩

/-! ### The row and the meaning of a form -/

theorem row_of_form {g : Form} {n : Nat} (h : i.form = g) (hc : formCycles s.f g = some n) :
    Row i s g.encode n := by
  subst h
  exact ⟨rfl, hc⟩

theorem exec_of_form {g : Form} (h : i.form = g) (s : State) : exec i s = runForm g s :=
  h ▸ exec_eq_runForm i s

theorem opndCycles_eq_byOpnd (o : Opnd) (m n : Nat) : opndCycles o m n = byOpnd o m n := by
  cases o <;> rfl

/-! ### Read-modify-write by form -/

/-- An instruction that is a read-modify-write raises at its read alone, and completes otherwise. -/
theorem exec_of_modifyOpnd {op : Byte → Byte → Byte × Byte}
    (h : exec i s = finish (modifyOpnd s o op)) :
    OpndFaults i s o ∧ ∀ v, OpndIs s o v →
      ∃ t, exec i s = .next t ∧ WritesBack s t o (op s.f v).1 ∧ t.f = (op s.f v).2 := by
  refine ⟨opndFaults_of_exec h, fun v hv => ?_⟩
  obtain ⟨t, ht, hw, hf⟩ := modifyOpnd_ok op hv
  exact ⟨t, by rw [h, ht, finish_ok], hw, hf⟩

/-! ### The accumulator operations by form -/

theorem row_of_alu {op : AluOp} (h : i.form = .alu op y) :
    Row i s (aluBytes op.code y) (aluCycles y) := by
  cases y <;> exact row_of_form h rfl

theorem srcFaults_of_alu {op : AluOp} (h : i.form = .alu op y) : SrcFaults i s y :=
  srcFaults_of_exec (exec_of_form h s)

theorem exec_of_alu {op : AluOp} (h : i.form = .alu op y) (hv : SrcIs s y v) :
    exec i s = .next (aluApply op s v) := by
  rw [exec_of_form h]
  simp only [runForm, aluOp, readSrc_ok hv, Exec.ok_bind, Exec.pure_eq, finish_ok]

theorem keepsButF_aluApply (op : AluOp) (s : State) (v : Byte) :
    KeepsButF s (aluApply op s v) [.a] [] := by
  cases op
  case cp => exact keepsButF_setAcc s (s.a, _)
  all_goals exact keepsButF_setAcc ..
end

end Sys2Proof.Machine
end

section
/-! PROOFS. The obligations about the ALU (41_alu.md), assembled from the lemmas above. -/

namespace Sys2Proof

open Sys2Proof.Machine Sys2Proof.Claims

/-- Settles O40: the adders without a carry are the wrapped sum and difference. -/
theorem subtractionUndoesAddition : Obligations.SubtractionUndoesAddition := by
  refine fun rule f g x y => ⟨addBytes_false_fst f x y, subBytes_false_fst rule f x y, ?_, ?_⟩
  · rw [subBytes_false_fst, addBytes_false_fst, BitVec.add_sub_cancel]
  · rw [subBytes_flags, getFlag_putFlags]
    rfl

/-- Settles O36: both operations are `add_bytes`, whose carry-in is the old C for ADC alone. -/
theorem addBytesToA : Obligations.AddBytesToA := by
  intro i s adc y h
  have hcode : (if adc then AluOp.adc else .add).code = if adc then 1 else 0 := by
    cases adc <;> rfl
  refine ⟨hcode ▸ row_of_alu h, srcFaults_of_alu h, fun v hv => ?_⟩
  have happly : aluApply (if adc then .adc else .add) s v = s.setAcc (addBytes s.f s.a v adc) := by
    cases adc <;> rfl
  refine ⟨_, exec_of_alu h hv, ?_, ?_, keepsButF_aluApply ..⟩
  · rw [happly]
    exact addBytes_toNat ..
  · rw [happly]
    exact flagsAre_of_putFlags (addBytes_flags ..)

/-- Settles O37: the flags of the three operations are those of `sub_bytes`, whose carry-in is the
old C for SBC alone, and CP leaves A. -/
theorem subtractBytesFromA : Obligations.SubtractBytesFromA := by
  intro i s op y h hop
  refine ⟨row_of_alu h, srcFaults_of_alu h, fun v hv => ?_⟩
  have hf : (aluApply op s v).f = (subBytes s.cfg.sbcHRule s.f s.a v (op == .sbc)).2 := by
    rcases hop with rfl | rfl | rfl <;> rfl
  have ha : op ≠ .cp →
      (aluApply op s v).a = (subBytes s.cfg.sbcHRule s.f s.a v (op == .sbc)).1 := by
    rcases hop with rfl | rfl | rfl
    · exact fun _ => rfl
    · exact fun _ => rfl
    · exact fun hn => absurd rfl hn
  refine ⟨_, exec_of_alu h hv, fun hn => ?_, ?_, ?_, keepsButF_aluApply ..⟩
  · rw [ha hn]
    exact subBytes_toNat ..
  · rintro rfl
    rfl
  · rw [subBytes_flags, beq_zero_eq_toNat, subBytes_toNat] at hf
    exact flagsAre_of_putFlags hf

/-- Settles O38, by the three operations. -/
theorem logicOnA : Obligations.LogicOnA := by
  intro i s op y h hop
  refine ⟨row_of_alu h, srcFaults_of_alu h, fun v hv =>
    ⟨_, exec_of_alu h hv, fun n _ => ?_, ?_, keepsButF_aluApply ..⟩⟩
  · rcases hop with rfl | rfl | rfl
    · exact BitVec.getLsbD_and
    · exact BitVec.getLsbD_xor
    · exact BitVec.getLsbD_or
  · rcases hop with rfl | rfl | rfl <;> exact flagsAre_of_putFlags rfl

/-- Settles O39: a read-modify-write with `inc_byte` or `dec_byte`. -/
theorem incrementDecrementByte : Obligations.IncrementDecrementByte := by
  refine fun i s o => ⟨fun h => ?_, fun h => ?_⟩
  · obtain ⟨hfaults, hnext⟩ := exec_of_modifyOpnd (op := incByte) (exec_of_form h s)
    refine ⟨row_of_form h (congrArg some (opndCycles_eq_byOpnd ..)), hfaults, fun v hv => ?_⟩
    obtain ⟨t, ht, hw, hf⟩ := hnext v hv
    exact ⟨t, ht, hw, flagsAre_of_incByte hf⟩
  · obtain ⟨hfaults, hnext⟩ := exec_of_modifyOpnd (op := decByte) (exec_of_form h s)
    refine ⟨row_of_form h (congrArg some (opndCycles_eq_byOpnd ..)), hfaults, fun v hv => ?_⟩
    obtain ⟨t, ht, hw, hf⟩ := hnext v hv
    exact ⟨t, ht, hw, flagsAre_of_decByte hf⟩

/-- Settles O43: `sp_plus_e8` is the signed sum, and its flags are the statement's. -/
theorem stackPointerOffset : Obligations.StackPointerOffset := by
  refine fun i s n => ⟨fun h => ?_, fun h => ?_⟩
  · have hx : exec i s = execAddSpE8 n s := exec_of_form h s
    exact ⟨row_of_form h rfl, _, hx, spPlusE8_fst s.f s.sp n,
      flagsAre_of_putFlags rfl, rfl, frame_sp_f ..⟩
  · have hx : exec i s = execLdHlSpE8 n s := exec_of_form h s
    exact ⟨row_of_form h rfl, _, hx,
      (State.setHL_hl ..).trans (spPlusE8_fst ..), flagsAre_of_putFlags rfl, keepsButF_setHL ..⟩

/-- Settles O46: DAA adds 6 and 0x60 where the decimal digits carry. -/
theorem daaCompletesBcdAddition : Obligations.DaaCompletesBcdAddition := by
  intro f m n hm hn sum
  obtain ⟨hsum, hc⟩ := daa_addBytes_bcd f hm hn
  refine ⟨BitVec.eq_of_toNat_eq ?_, hc⟩
  rw [hsum, bcd_toNat hm, bcd_toNat hn, bcd_toNat (Nat.mod_lt _ (by omega))]
  split_ifs <;> omega

/-- Settles O49: the operand is read, and F alone is written. -/
theorem bitTests : Obligations.BitTests := by
  intro i s b o h
  have hx : exec i s = finish (readOpnd s o >>= fun v => pure { s with f := bitTest s.f b v }) :=
    exec_of_form h s
  refine ⟨row_of_form h (congrArg some (opndCycles_eq_byOpnd ..)), opndFaults_of_exec hx,
    fun v hv => ?_⟩
  have hnext : exec i s = .next { s with f := bitTest s.f b v } := by
    rw [hx, readOpnd_ok hv, Exec.ok_bind, Exec.pure_eq, finish_ok]
  exact ⟨_, hnext, flagsAre_of_bitTest rfl, keepsButF_f ..⟩

end Sys2Proof
end

section
/-! SUPPORT. What the 8-bit loads do, by the access they make: the faults of the access, the completed
load or store, HL moved after it, and the frame (42_loads8.md). -/

namespace Sys2Proof.Machine

open Sys2Proof.Claims

/-! ### Frames that keep F -/

section
variable (s : State)

theorem keeps_setReg (r : Reg) (v : Byte) : Keeps s (s.setReg r v) [r] [] :=
  ⟨keepsButF_setReg s s.f r v, s.setReg_f r v⟩

theorem keeps_setHL (v : Word) : Keeps s (s.setHL v) [.h, .l] [] := ⟨keepsButF_setHL s s.f v, rfl⟩

theorem keeps_write {a : Word} {v : Byte} {b : Bus} (hb : s.bus.write a v = .ok b) :
    Keeps s { s with bus := b } [] [a] := ⟨keepsButF_write s s.f hb, rfl⟩
end

section
variable {s t u : State} {dest dest' : List Reg} {stored stored' : List Word}

/-- Two changes after one another leave alone what both of them leave alone. -/
theorem frame_trans (h : Frame s t dest stored) (k : Frame t u dest' stored') :
    Frame s u (dest ++ dest') (stored ++ stored') := by
  obtain ⟨hreg, hread, hhalted, hime, hpending, hfaulted, hcfg⟩ := h
  obtain ⟨kreg, kread, khalted, kime, kpending, kfaulted, kcfg⟩ := k
  refine ⟨fun r hr => ?_, fun x hx => ?_, khalted.trans hhalted, kime.trans hime,
    kpending.trans hpending, kfaulted.trans hfaulted, kcfg.trans hcfg⟩
  · rw [List.mem_append, not_or] at hr
    exact (kreg r hr.2).trans (hreg r hr.1)
  · rw [List.forall_mem_append] at hx
    exact (kread x hx.2).trans (hread x hx.1)

theorem keeps_trans (h : Keeps s t dest stored) (k : Keeps t u dest' stored') :
    Keeps s u (dest ++ dest') (stored ++ stored') := by
  obtain ⟨⟨hframe, hsp, hpc⟩, hf⟩ := h
  obtain ⟨⟨kframe, ksp, kpc⟩, kf⟩ := k
  exact ⟨⟨frame_trans hframe kframe, ksp.trans hsp, kpc.trans hpc⟩, kf.trans hf⟩
end

/-! ### Loads -/

section
variable {i : Instr} {s : State} {a : Word}

/-- An instruction that reads a byte and then completes raises at its read alone. -/
theorem loadsFrom_of_exec {g : Byte → State} {P : Byte → State → Prop}
    (h : exec i s = finish (load s a >>= fun v => pure (g v))) (hP : ∀ v, P v (g v)) :
    LoadsFrom i s a P := by
  refine ⟨fun v hv => ⟨g v, ?_, hP v⟩, fun k hk => ?_⟩
  · rw [h, load_ok hv, Exec.ok_bind, Exec.pure_eq, finish_ok]
  · rw [FaultsAt, h, load_error hk]
    rfl

/-- A load into a register writes that register alone. -/
theorem loadsFrom_setReg {r : Reg}
    (h : exec i s = finish (load s a >>= fun v => pure (s.setReg r v))) :
    LoadsFrom i s a (fun v t => t.reg r = v ∧ Keeps s t [r] []) :=
  loadsFrom_of_exec h fun _ => ⟨State.reg_setReg_same .., keeps_setReg ..⟩

/-- A load into A that moves HL afterwards writes A, H and L alone (R151, R152). -/
theorem loadsFrom_setHL {move : Word → Word}
    (h : exec i s = finish (load s a >>= fun v => pure ((s.setReg .a v).setHL (move s.hl)))) :
    LoadsFrom i s a (fun v t => t.a = v ∧ t.hl = move s.hl ∧ Keeps s t [.a, .h, .l] []) :=
  loadsFrom_of_exec h fun _ =>
    ⟨rfl, State.setHL_hl .., keeps_trans (keeps_setReg ..) (keeps_setHL ..)⟩

/-! ### Stores -/

variable {v : Byte}

/-- An instruction that writes a byte and then completes raises at its write alone. -/
theorem storesTo_of_exec {g : State → State} {P : State → Prop}
    (h : exec i s = finish (store s a v >>= fun t => pure (g t))) (hbus : ∀ t, (g t).bus = t.bus)
    (hP : ∀ b, Keeps s { s with bus := b } [] [a] → P (g { s with bus := b })) :
    StoresTo i s a v P := by
  refine ⟨fun ha => ?_, fun k hk => ?_⟩
  · obtain ⟨b, hb⟩ := s.bus.write_accessible v ha
    refine ⟨g { s with bus := b }, ?_, ?_, hP b (keeps_write s hb)⟩
    · rw [h, store_ok hb, Exec.ok_bind, Exec.pure_eq, finish_ok]
    · rw [hbus]
      exact Bus.read_write_same hb
  · rw [FaultsAt, h, store_error hk]
    rfl

/-- A store that ends with its write writes its location alone. -/
theorem storesTo_bind_pure (h : exec i s = finish (store s a v >>= pure)) :
    StoresTo i s a v (fun t => Keeps s t [] [a]) :=
  storesTo_of_exec h (fun _ => rfl) fun _ hk => hk

theorem storesTo_store (h : exec i s = finish (store s a v)) :
    StoresTo i s a v (fun t => Keeps s t [] [a]) := by
  rw [← bind_pure (store s a v)] at h
  exact storesTo_bind_pure h

/-- A store that moves HL afterwards writes its location, H and L alone (R149, R150). -/
theorem storesTo_setHL {move : Word → Word}
    (h : exec i s = finish (store s a v >>= fun t => pure (t.setHL (move t.hl)))) :
    StoresTo i s a v (fun t => t.hl = move s.hl ∧ Keeps s t [.h, .l] [a]) :=
  storesTo_of_exec h (fun _ => rfl) fun _ hk =>
    ⟨State.setHL_hl .., keeps_trans hk (keeps_setHL ..)⟩
end

end Sys2Proof.Machine
end

section
/-! PROOFS. The obligations about the 8-bit loads (42_loads8.md), assembled from the lemmas above. -/

namespace Sys2Proof

open Sys2Proof.Machine Sys2Proof.Claims

/-- Settles O27: either load is one register write. -/
theorem registerLoads : Obligations.RegisterLoads := by
  refine ⟨fun _ s _ _ h => ⟨row_of_form h rfl, ?_⟩, fun _ s _ _ h => ⟨row_of_form h rfl, ?_⟩⟩ <;>
    exact ⟨_, exec_of_form h s, State.reg_setReg_same .., keeps_setReg ..⟩

/-- Settles O28: each form is a read and a register write, after which HL+ and HL- move HL. -/
theorem memoryLoads : Obligations.MemoryLoads := fun _ s =>
  ⟨fun _ h => ⟨row_of_form h rfl, loadsFrom_setReg (exec_of_form h s)⟩,
    fun h => ⟨row_of_form h rfl, loadsFrom_setReg (r := .a) (exec_of_form h s)⟩,
    fun h => ⟨row_of_form h rfl, loadsFrom_setReg (r := .a) (exec_of_form h s)⟩,
    fun h => ⟨row_of_form h rfl, loadsFrom_setHL (move := (· + 1)) (exec_of_form h s)⟩,
    fun h => ⟨row_of_form h rfl, loadsFrom_setHL (move := (· - 1)) (exec_of_form h s)⟩,
    fun _ h => ⟨row_of_form h rfl, loadsFrom_setReg (r := .a) (exec_of_form h s)⟩,
    fun n h => ⟨row_of_form h rfl,
      pageAddr_eq n ▸ loadsFrom_setReg (r := .a) (exec_of_form h s)⟩,
    fun h => ⟨row_of_form h rfl,
      pageAddr_eq s.c ▸ loadsFrom_setReg (r := .a) (exec_of_form h s)⟩⟩

/-- Settles O29: each form is a write of its byte, after which HL+ and HL- move HL. -/
theorem memoryStores : Obligations.MemoryStores := fun _ s =>
  ⟨fun _ h => ⟨row_of_form h rfl, storesTo_store (exec_of_form h s)⟩,
    fun _ h => ⟨row_of_form h rfl, storesTo_store (exec_of_form h s)⟩,
    fun h => ⟨row_of_form h rfl, storesTo_bind_pure (exec_of_form h s)⟩,
    fun h => ⟨row_of_form h rfl, storesTo_bind_pure (exec_of_form h s)⟩,
    fun h => ⟨row_of_form h rfl, storesTo_setHL (move := (· + 1)) (exec_of_form h s)⟩,
    fun h => ⟨row_of_form h rfl, storesTo_setHL (move := (· - 1)) (exec_of_form h s)⟩,
    fun _ h => ⟨row_of_form h rfl, storesTo_store (exec_of_form h s)⟩,
    fun n h => ⟨row_of_form h rfl, pageAddr_eq n ▸ storesTo_store (exec_of_form h s)⟩,
    fun h => ⟨row_of_form h rfl, pageAddr_eq s.c ▸ storesTo_store (exec_of_form h s)⟩⟩

end Sys2Proof
end

section
/-! SUPPORT. What the 16-bit loads and the stack do (43_loads16_stack.md): the frame of a pair write, two
neighbouring byte writes, and Push16 and Pop16 with all that an instruction built on them can do. -/

namespace Sys2Proof

/-! ### The views of the pairs (R72) -/

theorem RR.view_ne_af (p : RR) : p.view ≠ .af := by cases p <;> decide

theorem RR.view_ne_pc (p : RR) : p.view ≠ .pc := by cases p <;> decide

theorem RR.view_ne_sp {p : RR} (h : p ≠ .sp) : p.view ≠ .sp := by
  cases p
  case sp => contradiction
  all_goals decide

theorem StkPair.view_ne_pc (p : StkPair) : p.view ≠ .pc := by cases p <;> decide

theorem StkPair.view_ne_sp (p : StkPair) : p.view ≠ .sp := by cases p <;> decide

theorem StkPair.view_ne_af {p : StkPair} (h : p ≠ .af) : p.view ≠ .af := by
  cases p
  case af => contradiction
  all_goals decide

end Sys2Proof

namespace Sys2Proof.Machine

open Sys2Proof.Claims

/-! ### Pair writes -/

/-- The register operands that are cells of a 16-bit register or view (R22). -/
def regsOf : R16 → List Reg
  | .af => [.a]
  | .bc => [.b, .c]
  | .de => [.d, .e]
  | .hl => [.h, .l]
  | .sp | .pc => []

section
variable (s : State)

theorem frame_setReg (r : Reg) (v : Byte) : Frame s (s.setReg r v) [r] [] :=
  (keepsButF_setReg s s.f r v).1

theorem frame_sp (v : Word) : Frame s { s with sp := v } [] [] := frame_sp_f s s.f v

theorem frame_pc (v : Word) : Frame s { s with pc := v } [] [] :=
  ⟨fun q _ => by cases q <;> rfl, fun _ _ => rfl, rfl, rfl, rfl, rfl, rfl⟩

/-- A pair write leaves every register operand alone that is no cell of the pair (R23). -/
theorem frame_setR16 (rr : R16) (v : Word) : Frame s (s.setR16 rr v) (regsOf rr) [] := by
  cases rr with
  | af => exact (keepsButF_setReg s (maskF (loByte v)) .a (hiByte v)).1
  | bc => exact frame_trans (frame_setReg s .b (hiByte v)) (frame_setReg _ .c (loByte v))
  | de => exact frame_trans (frame_setReg s .d (hiByte v)) (frame_setReg _ .e (loByte v))
  | hl => exact (keepsButF_setHL s s.f v).1
  | sp => exact frame_sp s v
  | pc => exact frame_pc s v
end

theorem maskF_of_lowF {f : Byte} (h : lowF f = 0#8) : maskF f = f :=
  f_ext ((lowF_maskF f).trans h.symm) (getFlag_maskF f)

/-- Masking clears bits 3..0 (R21). -/
theorem toNat_maskF (v : Byte) : (maskF v).toNat = v.toNat / 16 * 16 := by
  have := v.isLt
  have hmask : maskF v = v >>> 4 <<< 4 :=
    (BitVec.shiftLeft_ushiftRight (x := v) (n := 4)).symm
  rw [hmask, BitVec.toNat_shiftLeft, BitVec.toNat_ushiftRight, Nat.shiftLeft_eq,
    Nat.shiftRight_eq_div_pow]
  omega

/-- A pair written back with its own value is unchanged; AF needs F's low nibble zero (R21). -/
theorem setR16_getR16_self {s : State} (rr : R16) (hf : lowF s.f = 0#8) :
    s.setR16 rr (s.getR16 rr) = s := by
  cases rr <;> simp [State.setR16, State.getR16, maskF_of_lowF hf]

/-! ### Two byte writes -/

/-- Two writes to different accessible locations complete, both bytes are there, and every other
location is as before (R58). -/
theorem Bus.write_two (b : Bus) {x y : Word} (hne : location x ≠ location y)
    (hx : accessible x = true) (hy : accessible y = true) (v w : Byte) :
    ∃ b1 b2, b.write x v = .ok b1 ∧ b1.write y w = .ok b2 ∧ b2.read x = .ok (storedByte x v) ∧
      b2.read y = .ok (storedByte y w) ∧
      ∀ z : Word, (∀ a ∈ [x, y], location z ≠ location a) → b2.read z = b.read z := by
  obtain ⟨b1, h1⟩ := b.write_accessible v hx
  obtain ⟨b2, h2⟩ := b1.write_accessible w hy
  refine ⟨b1, b2, h1, h2, ?_, Bus.read_write_same h2, fun z hz => ?_⟩
  · rw [Bus.read_write_other h2 hne, Bus.read_write_same h1]
  · rw [Bus.read_write_other h2 (hz y (by simp)), Bus.read_write_other h1 (hz x (by simp))]

/-- A word written to two accessible addresses changes the bus alone, low byte first (R53). -/
theorem storeWord_accessible (s : State) {a : Word} (v : Word) (ha : accessible a = true)
    (ha' : accessible (a + 1) = true) :
    ∃ b, storeWord s a v = .ok { s with bus := b } ∧ b.read a = .ok (storedByte a (loByte v)) ∧
      b.read (a + 1) = .ok (storedByte (a + 1) (hiByte v)) ∧
      Keeps s { s with bus := b } [] [a, a + 1] := by
  obtain ⟨b1, b2, h1, h2, hlo, hhi, hother⟩ :=
    s.bus.write_two (location_succ_ne a).symm ha ha' (loByte v) (hiByte v)
  exact ⟨b2, (storeWord_low_ok h1).trans (store_ok h2), hlo, hhi, keeps_bus hother⟩

theorem storeWord_error_high {s : State} {a v : Word} {b : Bus} {k : Fatal}
    (h1 : s.bus.write a (loByte v) = .ok b) (h2 : b.write (a + 1) (hiByte v) = .error k) :
    storeWord s a v = .error (k, { s with bus := b }) :=
  (storeWord_low_ok h1).trans (store_error h2)

/-! ### Push16 -/

theorem sub_one_sub_one (x : Word) : x - 1 - 1 = x - 2 := by bv_omega

section
variable {i : Instr} {s : State} {v : Word} {k : Fatal} {b : Bus}

theorem push16_error_high (h : s.bus.write (s.sp - 1) (hiByte v) = .error k) :
    push16 s v = .error (k, { s with sp := s.sp - 1 }) := by
  unfold push16 pushByte
  rw [store_error (s := { s with sp := s.sp - 1 }) h, Exec.error_bind]

theorem push16_error_low (h1 : s.bus.write (s.sp - 1) (hiByte v) = .ok b)
    (h2 : b.write (s.sp - 2) (loByte v) = .error k) :
    push16 s v = .error (k, { s with sp := s.sp - 2, bus := b }) := by
  rw [← sub_one_sub_one] at h2 ⊢
  unfold push16 pushByte
  rw [store_ok (s := { s with sp := s.sp - 1 }) h1, Exec.ok_bind]
  exact store_error (s := { s with sp := s.sp - 1 - 1, bus := b }) h2

/-- A push to two accessible addresses moves SP and changes the bus (R176). -/
theorem push16_accessible (s : State) (v : Word) (h1 : accessible (s.sp - 1) = true)
    (h2 : accessible (s.sp - 2) = true) :
    ∃ b, push16 s v = .ok { s with sp := s.sp - 2, bus := b } ∧
      Pushed s { s with sp := s.sp - 2, bus := b } v := by
  have hne : location (s.sp - 1) ≠ location (s.sp - 2) :=
    sub_one_sub_one s.sp ▸ location_pred_ne (s.sp - 1)
  obtain ⟨b1, b2, hb1, hb2, hhi, hlo, hother⟩ :=
    s.bus.write_two hne h1 h2 (hiByte v) (loByte v)
  obtain ⟨⟨hframe, -, -⟩, -⟩ := keeps_bus hother
  refine ⟨b2, ?_, rfl, hhi, hlo, frame_trans hframe (frame_sp _ (s.sp - 2)), rfl⟩
  rw [← sub_one_sub_one] at hb2 ⊢
  exact push16_ok v hb1 hb2

/-- An instruction that pushes first raises where the push does. -/
theorem pushFaults_of_exec {g : State → Exec State} (h : exec i s = finish (push16 s v >>= g)) :
    PushFaults i s v := by
  refine ⟨fun k hk => ?_, fun k b h1 h2 => ?_⟩
  · rw [h, push16_error_high hk]
    rfl
  · rw [h, push16_error_low h1 h2]
    rfl

theorem pushFaults_of_push {p : StkPair} (h : i.form = .push p) :
    PushFaults i s (s.getR16 p.view) := by
  apply pushFaults_of_exec (g := pure)
  rw [bind_pure]
  exact exec_of_form h s

/-- A completed PUSH (R174). -/
theorem exec_of_push {p : StkPair} (h : i.form = .push p) (h1 : accessible (s.sp - 1) = true)
    (h2 : accessible (s.sp - 2) = true) :
    ∃ b, exec i s = .next { s with sp := s.sp - 2, bus := b } ∧
      Pushed s { s with sp := s.sp - 2, bus := b } (s.getR16 p.view) := by
  obtain ⟨b, hb, hpushed⟩ := push16_accessible s (s.getR16 p.view) h1 h2
  exact ⟨b, (exec_of_form h s).trans (congrArg finish hb), hpushed⟩

/-! ### Pop16 -/

variable {lo hi : Byte}

theorem pop16_error_low (h : s.bus.read s.sp = .error k) : pop16 s = .error (k, s) := by
  unfold pop16 popByte
  rw [load_error h]
  rfl

theorem pop16_error_high (hl : s.bus.read s.sp = .ok lo)
    (h : s.bus.read (s.sp + 1) = .error k) : pop16 s = .error (k, { s with sp := s.sp + 1 }) := by
  unfold pop16 popByte
  rw [load_ok hl]
  simp only [Exec.ok_bind, Exec.pure_eq]
  rw [load_error (s := { s with sp := s.sp + 1 }) h]
  rfl

/-- An instruction that pops first raises where the pop does. -/
theorem popFaults_of_exec {g : Word × State → Exec State} (h : exec i s = finish (pop16 s >>= g)) :
    PopFaults i s := by
  refine ⟨fun k hk => ?_, fun k lo hl hk => ?_⟩
  · rw [FaultsAt, h, pop16_error_low hk]
    rfl
  · rw [h, pop16_error_high hl hk]
    rfl

/-- With both reads complete, what follows a pop runs on the popped word with SP two higher (R177). -/
theorem pop16_bind (hl : s.bus.read s.sp = .ok lo) (hh : s.bus.read (s.sp + 1) = .ok hi)
    (g : Word × State → Exec State) :
    pop16 s >>= g = g (wordOf hi lo, { s with sp := s.sp + 2 }) := by
  rw [pop16_ok hl hh, Exec.ok_bind, BitVec.add_assoc]
  rfl

/-- A completed POP (R175). -/
theorem exec_of_pop {p : StkPair} (h : i.form = .pop p) (hl : s.bus.read s.sp = .ok lo)
    (hh : s.bus.read (s.sp + 1) = .ok hi) :
    exec i s = .next (State.setR16 { s with sp := s.sp + 2 } p.view (wordOf hi lo)) :=
  (exec_of_form h s).trans (congrArg finish (pop16_bind hl hh _))

/-! ### Returns -/

theorem returnFromCall_ok (hl : s.bus.read s.sp = .ok lo) (hh : s.bus.read (s.sp + 1) = .ok hi) :
    returnFromCall s = .ok { s with sp := s.sp + 2, pc := wordOf hi lo } := pop16_bind hl hh _

/-- With both stack reads complete, the instruction ends with the popped word in PC, SP two higher and
`ime` as given, and changes nothing else. -/
def ReturnsWith (i : Instr) (s : State) (ime : Bool) : Prop :=
  ∀ lo hi, s.bus.read s.sp = .ok lo → s.bus.read (s.sp + 1) = .ok hi →
    ∃ t, exec i s = .next t ∧ t.pc.toNat = hi.toNat * 256 + lo.toNat ∧ t.sp = s.sp + 2 ∧
      t.ime = ime ∧ t = { s with pc := t.pc, sp := t.sp, ime := t.ime }

/-- An instruction that returns and then at most writes IME raises where its pop does. -/
theorem returns_of_exec {g : State → State} {ime : Bool}
    (h : exec i s = finish (returnFromCall s >>= fun t => pure (g t)))
    (hg : ∀ t, t.ime = s.ime → g t = { t with ime := ime }) :
    PopFaults i s ∧ ReturnsWith i s ime := by
  refine ⟨?_, fun lo hi hl hh => ⟨{ s with sp := s.sp + 2, pc := wordOf hi lo, ime := ime }, ?_,
    wordOf_toNat hi lo, rfl, rfl, rfl⟩⟩
  · unfold returnFromCall at h
    rw [bind_assoc] at h
    exact popFaults_of_exec h
  · rw [h, returnFromCall_ok hl hh, Exec.ok_bind]
    exact congrArg Host.Outcome.next (hg _ rfl)

/-- A return that ends with its pop keeps IME (R282, R283). -/
theorem returns_of_returnFromCall (h : exec i s = finish (returnFromCall s)) :
    PopFaults i s ∧ ReturnsWith i s s.ime := by
  rw [← bind_pure (returnFromCall s)] at h
  exact returns_of_exec (g := id) h fun t ht => by rw [← ht]; rfl

/-! ### Conditions -/

variable {cc : Cond}

theorem condHolds_iff (s : State) (cc : Cond) : condHolds s.f cc = true ↔ CondHolds s cc := by
  cases cc <;> simp [condHolds, CondHolds, State.flag]

theorem ifCond_of_condHolds (h : CondHolds s cc) (taken : Exec State) : ifCond s cc taken = taken :=
  if_pos ((condHolds_iff s cc).2 h)

theorem ifCond_of_not_condHolds (h : ¬CondHolds s cc) (taken : Exec State) :
    ifCond s cc taken = .ok s := if_neg (mt (condHolds_iff s cc).1 h)

theorem condRow_of_form {g : Form} {m n : Nat} (h : i.form = g)
    (hc : formCycles s.f g = some (condCycles s.f cc m n)) : CondRow i s cc g.encode m n := by
  subst h
  refine ⟨rfl, fun ht => hc.trans (congrArg some ?_), fun ht => hc.trans (congrArg some ?_)⟩
  · exact if_pos ((condHolds_iff s cc).2 ht)
  · exact if_neg (mt (condHolds_iff s cc).1 ht)
end

end Sys2Proof.Machine
end

section
/-! PROOFS. The obligations about the 16-bit loads and the stack (43_loads16_stack.md) and the returns
(48_control.md R282-R284), assembled from the lemmas above. -/

namespace Sys2Proof

open Sys2Proof.Machine Sys2Proof.Claims

/-- Settles O30: the load is one pair write. -/
theorem pairImmediateLoads : Obligations.PairImmediateLoads := by
  refine fun i s p v h => ⟨row_of_form h rfl, s.setR16 p.view v, exec_of_form h s,
    s.getR16_setR16_same v p.view_ne_af, s.setR16_f v p.view_ne_af, s.setR16_pc v p.view_ne_pc,
    fun hp => s.setR16_sp v (RR.view_ne_sp hp), ?_⟩
  cases p <;> exact frame_setR16 s _ v

/-- Settles O31: a write of SP, and a word write of SP at the address. -/
theorem stackPointerTransfers : Obligations.StackPointerTransfers := by
  refine fun i s => ⟨fun h => ⟨row_of_form h rfl, _, exec_of_form h s, rfl, rfl, rfl, frame_sp ..⟩,
    fun a h => ?_⟩
  have hx : exec i s = finish (storeWord s a s.sp) := exec_of_form h s
  refine ⟨row_of_form h rfl, fun ha ha' => ?_, fun k hk => ?_, fun k b h1 h2 => ?_⟩
  · obtain ⟨b, hb, hlo, hhi, hkeeps⟩ := storeWord_accessible s s.sp ha ha'
    exact ⟨_, hx.trans (congrArg finish hb), hlo, hhi, hkeeps⟩
  · exact hx.trans (congrArg finish (storeWord_error_low hk))
  · exact hx.trans (congrArg finish (storeWord_error_high h1 h2))

/-- Settles O32: PUSH is Push16 of the pair. -/
theorem pushStoresPair : Obligations.PushStoresPair := by
  refine fun i s p h => ⟨row_of_form h rfl, fun h1 h2 => ?_, pushFaults_of_push h⟩
  obtain ⟨b, hb, hpushed⟩ := exec_of_push h h1 h2
  exact ⟨_, hb, hpushed, rfl⟩

/-- Settles O33: SP-1 is IE's address, and SP-2 is in high RAM. -/
theorem pushAtResetStackIsFatal : Obligations.PushAtResetStackIsFatal := by
  intro i s p h hsp
  obtain ⟨-, hlow⟩ := pushFaults_of_push (s := s) h
  rw [hsp] at hlow
  have hie (v : Byte) :
      s.bus.write (0x0000#16 - 1) v = .ok { s.bus with ie := v.getLsbD 0 } := Bus.write_eq ..
  have hhram (b : Bus) (v : Byte) :
      b.write (0x0000#16 - 2) v = .error (.unimplementedRegion .write 0xFFFE#16) :=
    Bus.write_unimplemented b v (.inr (.inr rfl))
  exact hlow _ _ (hie _) (hhram _ _)

/-- Settles O34: POP is Pop16 and a pair write, which masks F. -/
theorem popLoadsPair : Obligations.PopLoadsPair := by
  refine fun i s p h => ⟨row_of_form h rfl, fun lo hi hl hh =>
    ⟨_, exec_of_pop h hl hh, State.setR16_sp _ _ p.view_ne_sp, State.setR16_pc _ _ p.view_ne_pc,
      fun hp => ⟨?_, State.setR16_f _ _ (StkPair.view_ne_af hp)⟩, ?_, ?_⟩,
    popFaults_of_exec (exec_of_form h s)⟩
  · rw [State.getR16_setR16_same _ _ (StkPair.view_ne_af hp), wordOf_toNat]
  · rintro rfl
    refine ⟨hiByte_wordOf hi lo, ?_⟩
    rw [StkPair.view, State.setR16_af_f, loByte_wordOf, toNat_maskF]
  · have hframe := frame_trans (frame_sp s (s.sp + 2)) (frame_setR16 _ p.view (wordOf hi lo))
    cases p <;> exact hframe

/-- Settles O35: the pop reads back the two bytes pushed, and writing the pair's own value back
changes nothing. -/
theorem popUndoesPush : Obligations.PopUndoesPush := by
  intro i j s p hi hj h1 h2 hf
  obtain ⟨b, hb, -, hhi, hlo, -, -⟩ :=
    exec_of_push (s := s) hi (accessible_of_plain h1) (accessible_of_plain h2)
  rw [storedByte_of_plain _ h1] at hhi
  rw [storedByte_of_plain _ h2] at hlo
  have hsucc : s.sp - 2 + 1 = s.sp - 1 := by bv_omega
  have hsp : s.sp - 2 + 2 = s.sp := BitVec.sub_add_cancel ..
  refine ⟨_, _, hb, exec_of_pop hj hlo (hsucc ▸ hhi), ?_⟩
  have hpair : s.getR16 p.view = State.getR16 { s with bus := b } p.view := by cases p <;> rfl
  simp only [wordOf_hiByte_loByte, hsp]
  rw [hpair]
  exact setR16_getR16_self (s := { s with bus := b }) p.view hf

/-- Settles O54: the three forms are a return, under a condition for RET cc, with IME written after it
for RETI. -/
theorem returns : Obligations.Returns := by
  refine fun i s => ⟨fun h => ⟨row_of_form h rfl, returns_of_returnFromCall (exec_of_form h s)⟩,
    fun cc h => ?_,
    fun h => ⟨row_of_form h rfl, returns_of_exec (exec_of_form h s) fun _ _ => rfl⟩⟩
  have hx : exec i s = finish (ifCond s cc (returnFromCall s)) := exec_of_form h s
  refine ⟨condRow_of_form h rfl, fun ht => ?_, fun hn => ?_⟩
  · rw [ifCond_of_condHolds ht] at hx
    exact returns_of_returnFromCall hx
  · rw [hx, ifCond_of_not_condHolds hn, finish_ok]

end Sys2Proof
end

section
/-! SUPPORT. What `add_words` answers, as a number and as flags (41_alu.md R112), and what a write of one
of the pairs BC, DE, HL, SP leaves (10_state.md R23). -/

namespace Sys2Proof.Machine

open Sys2Proof.Claims

/-- A word is its two bytes, as a number. -/
theorem toNat_eq_hiByte_loByte (v : Word) :
    v.toNat = (hiByte v).toNat * 256 + (loByte v).toNat := by
  rw [← wordOf_toNat, wordOf_hiByte_loByte]

section
variable (f : Byte) (x y : Word)

/-- The carry that `add_words` chains from the low bytes to the high bytes. -/
def lowCarry : Bool := decide ((loByte x).toNat + (loByte y).toNat > 255)

theorem carryIn_addBytes_loByte :
    carryIn (addBytes f (loByte x) (loByte y) false).2 true = lowCarry x y := by
  simp [carryIn, addBytes_flags, lowCarry]

/-- The chained carry is the part of the low bytes' sum that their result byte drops. -/
theorem loByte_add_loByte :
    (loByte x).toNat + (loByte y).toNat =
      (lowCarry x y).toNat * 256 + ((loByte x).toNat + (loByte y).toNat) % 256 := by
  have hx := (loByte x).isLt
  have hy := (loByte y).isLt
  by_cases h : (loByte x).toNat + (loByte y).toNat > 255 <;>
    simp only [lowCarry, h, decide_true, decide_false, Bool.toNat_true, Bool.toNat_false] <;> omega

theorem addWords_toNat : (addWords f x y).1.toNat = (x.toNat + y.toNat) % 65536 := by
  have hcarry := loByte_add_loByte x y
  simp only [addWords, wordOf_toNat, addBytes_toNat, carryIn_addBytes_loByte, carryIn_false,
    Bool.toNat_false, toNat_eq_hiByte_loByte x, toNat_eq_hiByte_loByte y]
  omega

/-- H and C are those of the high bytes' addition, so they are the carries out of bits 11 and 15. -/
theorem addWords_flags :
    (addWords f x y).2 = putFlags f (getFlag f .z) false
      (decide (x.toNat % 4096 + y.toNat % 4096 > 4095)) (decide (x.toNat + y.toNat > 65535)) := by
  have hcarry := loByte_add_loByte x y
  have hh : decide (x.toNat % 4096 + y.toNat % 4096 > 4095) =
      decide ((hiByte x).toNat % 16 + (hiByte y).toNat % 16 + (lowCarry x y).toNat > 15) := by
    rw [decide_eq_decide, toNat_eq_hiByte_loByte x, toNat_eq_hiByte_loByte y]
    omega
  have hc : decide (x.toNat + y.toNat > 65535) =
      decide ((hiByte x).toNat + (hiByte y).toNat + (lowCarry x y).toNat > 255) := by
    rw [decide_eq_decide, toNat_eq_hiByte_loByte x, toNat_eq_hiByte_loByte y]
    omega
  rw [hh, hc]
  refine f_ext (by simp) fun k => ?_
  rw [addWords, addBytes_flags _ (hiByte x), carryIn_addBytes_loByte]
  cases k <;> simp
end

/-- Writing BC, DE, HL or SP: the pair reads back the value, and F, PC and all but the pair's own cells
are unchanged. -/
theorem setR16_view (s : State) (p : RR) (v : Word) :
    (s.setR16 p.view v).getR16 p.view = v ∧ (s.setR16 p.view v).f = s.f ∧
      (s.setR16 p.view v).pc = s.pc ∧ (p ≠ .sp → (s.setR16 p.view v).sp = s.sp) ∧
      Frame s (s.setR16 p.view v) (regsOf p.view) [] :=
  ⟨s.getR16_setR16_same v p.view_ne_af, s.setR16_f v p.view_ne_af, s.setR16_pc v p.view_ne_pc,
    fun hp => s.setR16_sp v (RR.view_ne_sp hp), frame_setR16 s p.view v⟩

end Sys2Proof.Machine
end

section
/-! PROOFS. The obligations about 16-bit arithmetic (45_alu16.md R220-R222), assembled from the lemmas
above. -/

namespace Sys2Proof

open Sys2Proof.Machine Sys2Proof.Claims

/-- Settles O41: ADD HL,rr is `add_words`, whose flags are the statement's. -/
theorem addPairToHL : Obligations.AddPairToHL := by
  refine fun i s p h => ⟨row_of_form h rfl, ?_⟩
  have hx : exec i s = addHL p s := exec_of_form h s
  exact ⟨_, hx, (congrArg BitVec.toNat (State.setHL_hl ..)).trans (addWords_toNat ..),
    flagsAre_of_putFlags (addWords_flags ..), keepsButF_setHL ..⟩

/-- Settles O42: both are a write of the pair with its value one higher or one lower. -/
theorem incrementDecrementPair : Obligations.IncrementDecrementPair := by
  intro i s p dest
  have hdest : dest = regsOf p.view := by cases p <;> rfl
  rw [hdest]
  refine ⟨fun h => ?_, fun h => ?_⟩
  · obtain ⟨hpair, hframe⟩ := setR16_view s p (s.getR16 p.view + 1)
    have hx : exec i s = incPair p s := exec_of_form h s
    refine ⟨row_of_form h rfl, _, hx, ?_, hframe⟩
    rw [hpair, BitVec.toNat_add]
    rfl
  · obtain ⟨hpair, hframe⟩ := setR16_view s p (s.getR16 p.view - 1)
    have hx : exec i s = decPair p s := exec_of_form h s
    refine ⟨row_of_form h rfl, _, hx, ?_, hframe⟩
    rw [hpair, BitVec.toNat_sub, Nat.add_comm]
    rfl

end Sys2Proof
end

section
/-! SUPPORT. The rotates and shifts as numbers (41_alu.md R121-R128), and the flags and the number
that DAA, CPL, SCF and CCF answer (R130; 46_acc_misc.md). -/

namespace Sys2Proof.Machine

open Sys2Proof.Claims

/-! ### Shifting a byte with a bit moved in -/

section
variable (v : Byte) (b : Bool)

theorem toNat_getLsbD_zero : (v.getLsbD 0).toNat = v.toNat % 2 := by
  rw [BitVec.getLsbD, Nat.toNat_testBit, Nat.pow_zero, Nat.div_one]

theorem toNat_getLsbD_seven : (v.getLsbD 7).toNat = v.toNat / 128 := by
  have hv := v.isLt
  rw [BitVec.getLsbD, Nat.toNat_testBit]
  omega

/-- A left shift with `b` moved into bit 0. -/
theorem shiftLeft_or_bitByte_toNat :
    ((v <<< 1) ||| bitByte b).toNat = v.toNat * 2 % 256 + b.toNat := by
  have hb : (bitByte b).toNat = b.toNat := by cases b <;> rfl
  have hshift : (v <<< 1).toNat = 2 ^ 1 * (v.toNat % 128) := by
    rw [BitVec.toNat_shiftLeft, Nat.shiftLeft_eq]
    omega
  rw [BitVec.toNat_or, hshift, hb, ← Nat.two_pow_add_eq_or_of_lt b.toNat_lt]
  omega

/-- A right shift with `b` moved into bit 7. -/
theorem shiftRight_or_bitByte_toNat :
    ((v >>> 1) ||| (bitByte b <<< 7)).toNat = v.toNat / 2 + b.toNat * 128 := by
  have hv := v.isLt
  have hlow : v.toNat / 2 < 2 ^ 7 := by omega
  have hb : (bitByte b <<< 7).toNat = 2 ^ 7 * b.toNat := by cases b <;> rfl
  rw [BitVec.toNat_or, hb, Nat.or_comm, BitVec.toNat_ushiftRight, Nat.shiftRight_eq_div_pow,
    ← Nat.two_pow_add_eq_or_of_lt hlow]
  omega

/-- The bit that SRA keeps (R126). -/
theorem and_0x80_eq_bitByte : v &&& 0x80#8 = bitByte (v.getLsbD 7) <<< 7 := by
  rw [show 0x80#8 = BitVec.twoPow 8 7 from rfl, BitVec.and_twoPow]
  cases v.getLsbD 7 <;> rfl

/-- The nibbles that SWAP exchanges (R127). -/
theorem swap_nibbles_toNat :
    (((v &&& 0x0F#8) <<< 4) ||| (v >>> 4)).toNat = v.toNat % 16 * 16 + v.toNat / 16 := by
  have hv := v.isLt
  have hlow : v.toNat / 16 < 2 ^ 4 := by omega
  have hhigh : ((v &&& 0x0F#8) <<< 4).toNat = 2 ^ 4 * (v.toNat % 16) := by
    have hmask : (v &&& 0x0F#8).toNat = v.toNat % 16 := Nat.and_two_pow_sub_one_eq_mod v.toNat 4
    rw [BitVec.toNat_shiftLeft, hmask, Nat.shiftLeft_eq]
    omega
  rw [BitVec.toNat_or, hhigh, BitVec.toNat_ushiftRight, Nat.shiftRight_eq_div_pow,
    ← Nat.two_pow_add_eq_or_of_lt hlow]
  omega
end

/-! ### Rotates and shifts -/

section
variable (op : RotOp) (f v : Byte)

/-- Every rotate and shift answers the statement's number. -/
theorem rotate_toNat : (rotate op f v).1.toNat = (rotSpec op (getFlag f .c) v).1 := by
  cases op with
  | rlc =>
    rw [rotSpec, ← toNat_getLsbD_seven]
    exact shiftLeft_or_bitByte_toNat ..
  | rrc =>
    rw [rotSpec, ← toNat_getLsbD_zero]
    exact shiftRight_or_bitByte_toNat ..
  | rl => exact shiftLeft_or_bitByte_toNat ..
  | rr => exact shiftRight_or_bitByte_toNat ..
  | sla => exact BitVec.toNat_shiftLeft.trans (congrArg (· % 256) (Nat.shiftLeft_eq ..))
  | sra =>
    have hsra : (rotate .sra f v).1 = (v >>> 1) ||| (bitByte (v.getLsbD 7) <<< 7) :=
      congrArg ((v >>> 1) ||| ·) (and_0x80_eq_bitByte v)
    rw [hsra, rotSpec, ← toNat_getLsbD_seven]
    exact shiftRight_or_bitByte_toNat ..
  | swap => exact swap_nibbles_toNat v
  | srl => exact (BitVec.toNat_ushiftRight ..).trans (Nat.shiftRight_eq_div_pow ..)

/-- Z comes from the result, N and H are cleared, and C is the bit shifted out (R121-R128). -/
theorem rotate_flags : (rotate op f v).2 =
    putFlags f ((rotate op f v).1 == 0) false false (rotSpec op (getFlag f .c) v).2 := by
  have hbit (b : Bool) : (b.toNat == 1) = b := by cases b <;> rfl
  cases op <;> simp only [rotSpec, ← toNat_getLsbD_seven, ← toNat_getLsbD_zero, hbit] <;> rfl

/-- The rotates of A clear the Z that the rotate wrote (D17). -/
theorem flagsAre_of_accRotate {s t : State} (hf : t.f = putFlag (rotate op s.f v).2 .z false) :
    FlagsAre s t false false false (rotSpec op (s.flag .c) v).2 := by
  have hlow : lowF t.f = lowF s.f := by rw [hf, lowF_putFlag, lowF_rotate]
  refine ⟨?_, ?_, ?_, ?_, hlow⟩ <;> simp [State.flag, hf, rotate_flags]

/-- An instruction that rotates A writes A and F alone (R230-R233). -/
theorem exec_of_accRotate {i : Instr} {s : State} (h : exec i s = accRotate (rotate op) s) :
    ∃ t, exec i s = .next t ∧ t.a.toNat = (rotSpec op (s.flag .c) s.a).1 ∧
      FlagsAre s t false false false (rotSpec op (s.flag .c) s.a).2 ∧ KeepsButF s t [.a] [] :=
  ⟨_, h, rotate_toNat .., flagsAre_of_accRotate op s.a rfl, keepsButF_setAcc ..⟩
end

/-! ### Decimal adjustment after a subtraction, and the flags of DAA -/

/-- DAA after a subtraction (R130): H and C alone say what is subtracted. -/
theorem daa_of_n {f : Byte} (a : Byte) (hn : getFlag f .n = true) :
    (daa f a).1.toNat =
      (a.toNat + 256 -
        ((if getFlag f .h then 6 else 0) + (if getFlag f .c then 0x60 else 0))) % 256 ∧
    getFlag (daa f a).2 .c = getFlag f .c := by
  have hadj : daaAdjust f a = ((if getFlag f .h then 0x06#8 else 0#8) |||
      (if getFlag f .c then 0x60#8 else 0#8), getFlag f .c) := by
    rw [daaAdjust, if_pos hn]
  constructor
  · have hle : (if getFlag f .h then 6 else 0) + (if getFlag f .c then 0x60 else 0) ≤ 256 := by
      split_ifs <;> decide
    rw [daa, if_pos hn, hadj, BitVec.toNat_sub, toNat_daa_adjustment, Nat.add_comm,
      ← Nat.add_sub_assoc hle]
  · rw [daa, hadj, getFlag_putFlag_same]

/-- DAA writes Z from its result, clears H and keeps N (R130). -/
theorem flagsAre_of_daa {s t : State} {a : Byte} {c : Bool} (hf : t.f = (daa s.f a).2)
    (hc : getFlag (daa s.f a).2 .c = c) :
    FlagsAre s t ((daa s.f a).1 == 0#8) (s.flag .n) false c := by
  have hlow : lowF t.f = lowF s.f := by rw [hf, lowF_daa]
  refine ⟨?_, ?_, ?_, (congrArg (getFlag · .c) hf).trans hc, hlow⟩ <;> simp [State.flag, hf, daa]

/-! ### Complement and carry flag -/

theorem cpl_toNat (f a : Byte) : (cpl f a).1.toNat = 255 - a.toNat := by
  have hcpl : (cpl f a).1 = ~~~a := BitVec.xor_allOnes
  rw [hcpl, BitVec.toNat_not]

/-- SCF and CCF write N, H and C and keep Z (R236, R237). -/
theorem flagsAre_of_putFlag_nhc {s t : State} {n h c : Bool}
    (hf : t.f = putFlag (putFlag (putFlag s.f .n n) .h h) .c c) :
    FlagsAre s t (s.flag .z) n h c := by
  have hlow : lowF t.f = lowF s.f := by simp only [hf, lowF_putFlag]
  refine ⟨?_, ?_, ?_, ?_, hlow⟩ <;> simp [State.flag, hf]

/-- CPL sets N and H and keeps Z and C (R235). -/
theorem flagsAre_of_cpl {s t : State} {a : Byte} (hf : t.f = (cpl s.f a).2) :
    FlagsAre s t (s.flag .z) true true (s.flag .c) := by
  have hlow : lowF t.f = lowF s.f := by rw [hf, lowF_cpl]
  refine ⟨?_, ?_, ?_, ?_, hlow⟩ <;> simp [State.flag, hf, cpl]

end Sys2Proof.Machine
end

section
/-! PROOFS. The obligations about the accumulator rotates and the flag operations (46_acc_misc.md),
assembled from the lemmas above. -/

namespace Sys2Proof

open Sys2Proof.Machine Sys2Proof.Claims

/-- Settles O44: each form is a rotate of A, by `rotate_toNat` and `rotate_flags`, with Z cleared. -/
theorem accumulatorRotates : Obligations.AccumulatorRotates := by
  rintro i s op code (⟨h, rfl, rfl⟩ | ⟨h, rfl, rfl⟩ | ⟨h, rfl, rfl⟩ | ⟨h, rfl, rfl⟩) <;>
    exact ⟨row_of_form h rfl, exec_of_accRotate _ (exec_of_form h s)⟩

/-- Settles O45, by N: after an addition A is tested and adjusted upwards, after a subtraction H and
C alone say how far it is adjusted downwards. -/
theorem decimalAdjust : Obligations.DecimalAdjust := by
  intro i s h
  refine ⟨row_of_form h rfl, ?_⟩
  intro a low high adj
  have hx : exec i s = execDaa s := exec_of_form h s
  have hdaa : (daa s.f s.a).1.toNat = (if s.flag .n then a + 256 - adj else a + adj) % 256 ∧
      getFlag (daa s.f s.a).2 .c = high := by
    cases hn : s.flag .n with
    | false =>
      simp only [adj, low, high, hn]
      exact daa_of_not_n s.a hn
    | true =>
      simp only [adj, low, high, hn, Bool.not_true, Bool.false_and, Bool.or_false]
      exact daa_of_n s.a hn
  obtain ⟨ha, hc⟩ := hdaa
  exact ⟨_, hx, ha, flagsAre_of_daa rfl hc, keepsButF_setAcc ..⟩

/-- Settles O47: CPL writes A and F, SCF and CCF write F alone. -/
theorem complementAndCarryFlags : Obligations.ComplementAndCarryFlags := by
  refine fun i s => ⟨fun h => ?_, fun h => ?_, fun h => ?_⟩
  · have hx : exec i s = execCpl s := exec_of_form h s
    exact ⟨row_of_form h rfl, _, hx, cpl_toNat s.f s.a, flagsAre_of_cpl (a := s.a) rfl,
      keepsButF_setAcc ..⟩
  · have hx : exec i s = execScf s := exec_of_form h s
    exact ⟨row_of_form h rfl, _, hx, flagsAre_of_putFlag_nhc rfl, keepsButF_f ..⟩
  · have hx : exec i s = execCcf s := exec_of_form h s
    exact ⟨row_of_form h rfl, _, hx, flagsAre_of_putFlag_nhc rfl, keepsButF_f ..⟩

end Sys2Proof
end

section
/-! SUPPORT. The bits that RES and SET answer (47_cb_prefixed.md R259, R261), the flags of a rotate or
shift in a completed state (41_alu.md R121-R128), and the prefixed forms that write their operand
back. -/

namespace Sys2Proof.Machine

open Sys2Proof.Claims

section
variable (b : Fin 8) (v : Byte) (k : Nat)

/-- The byte that RES and SET mask with has bit `b` alone. -/
theorem getLsbD_one_shiftLeft : (1#8 <<< b.val).getLsbD k = (k == b.val) := by
  rw [← BitVec.twoPow_eq, BitVec.getLsbD_twoPow, decide_eq_true b.isLt, Bool.true_and,
    Bool.beq_eq_decide_eq, decide_eq_decide]
  exact eq_comm

theorem getLsbD_resetBit {k : Nat} (hk : k < 8) :
    (resetBit b v).getLsbD k = (k != b.val && v.getLsbD k) := by
  rw [resetBit, BitVec.getLsbD_and, BitVec.getLsbD_not, getLsbD_one_shiftLeft,
    decide_eq_true hk, Bool.true_and, Bool.and_comm]
  rfl

theorem getLsbD_setBit : (setBit b v).getLsbD k = (k == b.val || v.getLsbD k) := by
  rw [setBit, BitVec.getLsbD_or, getLsbD_one_shiftLeft, Bool.or_comm]
end

/-- The flags that a rotate or shift writes are the statement's, Z from the result as a number. -/
theorem flagsAre_of_rotate {op : RotOp} {s t : State} {v : Byte} (hf : t.f = (rotate op s.f v).2) :
    FlagsAre s t ((rotSpec op (s.flag .c) v).1 == 0) false false (rotSpec op (s.flag .c) v).2 := by
  have hz : ((rotate op s.f v).1 == 0) = ((rotSpec op (s.flag .c) v).1 == 0) := by
    rw [State.flag, ← rotate_toNat]
    exact beq_zero_eq_toNat _
  rw [rotate_flags, hz] at hf
  exact flagsAre_of_putFlags hf

/-- The count of a prefixed form that writes its operand back: 8 on a register, 16 on `(HL)`. -/
theorem row_of_writeBack {i : Instr} {g : Form} {s : State} {o : Opnd} (h : i.form = g)
    (hc : formCycles s.f g = some (opndCycles o 8 16)) : Row i s g.encode (byOpnd o 8 16) :=
  row_of_form h (hc.trans (congrArg some (opndCycles_eq_byOpnd ..)))

/-- A read-modify-write that hands F on answers `n` with what `m` guarantees of it, in the operand
alone. -/
theorem exec_of_modifyOpnd_keepsF {i : Instr} {s : State} {o : Opnd} {m : Byte → Byte}
    {P : Byte → Byte → Prop} (h : exec i s = finish (modifyOpnd s o (fun f v => (m v, f))))
    (hm : ∀ v, P v (m v)) :
    OpndFaults i s o ∧ ∀ v, OpndIs s o v →
      ∃ t n, exec i s = .next t ∧ P v n ∧ WritesBack s t o n ∧ t.f = s.f := by
  obtain ⟨hfaults, hnext⟩ := exec_of_modifyOpnd h
  refine ⟨hfaults, fun v hv => ?_⟩
  obtain ⟨t, ht, hw, hf⟩ := hnext v hv
  exact ⟨t, m v, ht, hm v, hw, hf⟩

end Sys2Proof.Machine
end

section
/-! PROOFS. The obligations about the CB-prefixed operations that write their operand back
(47_cb_prefixed.md R240-R256, R259-R262), assembled from the lemmas above. -/

namespace Sys2Proof

open Sys2Proof.Machine Sys2Proof.Claims

/-- Settles O48: a read-modify-write with the rotate or shift, whose byte and flags are the
statement's. -/
theorem rotatesAndShifts : Obligations.RotatesAndShifts := by
  intro i s op o h
  obtain ⟨hfaults, hnext⟩ := exec_of_modifyOpnd (op := rotate op) (exec_of_form h s)
  refine ⟨row_of_writeBack h rfl, hfaults, fun v hv => ?_⟩
  obtain ⟨t, ht, hw, hf⟩ := hnext v hv
  have hbyte : (rotate op s.f v).1 = BitVec.ofNat 8 (rotSpec op (s.flag .c) v).1 := by
    rw [State.flag, ← rotate_toNat, BitVec.ofNat_toNat, BitVec.setWidth_eq]
  exact ⟨t, ht, hbyte ▸ hw, flagsAre_of_rotate hf⟩

/-- Settles O50: a read-modify-write that hands F on, with the byte that RES or SET answers. -/
theorem bitResetsAndSets : Obligations.BitResetsAndSets := by
  refine fun i s b o => ⟨fun h => ⟨row_of_writeBack h rfl, ?_⟩,
    fun h => ⟨row_of_writeBack h rfl, ?_⟩⟩
  · exact exec_of_modifyOpnd_keepsF (exec_of_form h s) fun v _ hk => getLsbD_resetBit b v hk
  · exact exec_of_modifyOpnd_keepsF (exec_of_form h s) fun v k _ => getLsbD_setBit b v k

end Sys2Proof
end

section
/-! SUPPORT. What a conditional instruction does with its condition and without, where a relative jump
goes, and what an instruction that calls can do (48_control.md R275-R281, R285). -/

namespace Sys2Proof.Machine

open Sys2Proof.Claims

section
variable {i : Instr} {s : State} {a : Word}

/-- An instruction under a condition is its taken branch, or nothing (R73). -/
theorem exec_of_ifCond {cc : Cond} {taken : Exec State}
    (h : exec i s = finish (ifCond s cc taken)) :
    (CondHolds s cc → exec i s = finish taken) ∧ (¬CondHolds s cc → exec i s = .next s) := by
  refine ⟨fun ht => ?_, fun hn => ?_⟩
  · rw [h, ifCond_of_condHolds ht]
  · rw [h, ifCond_of_not_condHolds hn, finish_ok]

theorem State.jumpRel_eq (s : State) (e : Byte) :
    s.jumpRel e = { s with pc := BitVec.ofInt 16 (s.pc.toNat + e.toInt) } := by
  rw [State.jumpRel, relTarget_eq]

/-! ### Calls -/

/-- A call with two accessible stack addresses pushes `pc` and goes to its target (R280). -/
theorem callTo_accessible (s : State) (a : Word) (h1 : accessible (s.sp - 1) = true)
    (h2 : accessible (s.sp - 2) = true) :
    ∃ b, callTo s a = .ok { s with sp := s.sp - 2, pc := a, bus := b } ∧
      Pushed s { s with sp := s.sp - 2, pc := a, bus := b } s.pc := by
  obtain ⟨b, hb, hsp, hhi, hlo, hframe, hf⟩ := push16_accessible s s.pc h1 h2
  refine ⟨b, ?_, hsp, hhi, hlo, frame_trans hframe (frame_pc _ a), hf⟩
  rw [callTo, hb]
  rfl

/-- With both stack addresses accessible, the instruction ends with `pc` pushed and at `a`. -/
def CallsTo (i : Instr) (s : State) (a : Word) : Prop :=
  accessible (s.sp - 1) = true ∧ accessible (s.sp - 2) = true →
    ∃ t, exec i s = .next t ∧ Pushed s t s.pc ∧ t.pc = a

/-- An instruction that is a call raises where its push does, and completes otherwise. -/
theorem callsTo_of_exec (h : exec i s = finish (callTo s a)) :
    PushFaults i s s.pc ∧ CallsTo i s a := by
  refine ⟨pushFaults_of_exec h, fun ⟨h1, h2⟩ => ?_⟩
  obtain ⟨b, hb, hpushed⟩ := callTo_accessible s a h1 h2
  exact ⟨_, h.trans (congrArg finish hb), hpushed, rfl⟩
end

/-- A return to a stack in plain storage that holds the pushed word `v` at SP-2 goes to `v`, with SP
two higher (R282). -/
theorem returnFromCall_of_pushed {s t : State} {v : Word} (h : Pushed s t v)
    (h1 : Plain (s.sp - 1)) (h2 : Plain (s.sp - 2)) (x : Word) :
    returnFromCall { t with pc := x } = .ok { t with sp := s.sp, pc := v } := by
  obtain ⟨hsp, hhi, hlo, -, -⟩ := h
  rw [storedByte_of_plain _ h1] at hhi
  rw [storedByte_of_plain _ h2, ← hsp] at hlo
  have hsucc : t.sp + 1 = s.sp - 1 := by rw [hsp]; bv_omega
  have hback : t.sp + 2 = s.sp := by rw [hsp, BitVec.sub_add_cancel]
  have hret := returnFromCall_ok (s := { t with pc := x }) hlo (hsucc ▸ hhi)
  rwa [wordOf_hiByte_loByte, hback] at hret

end Sys2Proof.Machine
end

section
/-! PROOFS. The obligations about control and control flow (48_control.md R270-R282, R285), assembled
from the lemmas above. -/

namespace Sys2Proof

open Sys2Proof.Machine Sys2Proof.Claims

/-- Settles O51: each form is one write of the engine flags, or none. -/
theorem cpuControl : Obligations.CpuControl := fun _ s =>
  ⟨fun h => ⟨row_of_form h rfl, exec_of_form h s⟩,
    fun h => ⟨row_of_form h rfl, exec_of_form h s⟩,
    fun _ h => ⟨row_of_form h rfl, exec_of_form h s⟩,
    fun h => ⟨row_of_form h rfl, exec_of_form h s⟩,
    fun h => ⟨row_of_form h rfl, exec_of_form h s⟩⟩

/-- Settles O52: each form is a write of `pc`, under a condition for JR cc and JP cc. -/
theorem jumps : Obligations.Jumps := by
  refine fun i s => ⟨fun e h => ⟨row_of_form h rfl, ?_⟩, fun cc e h => ⟨?_, ?_⟩,
    fun a h => ⟨row_of_form h rfl, exec_of_form h s⟩,
    fun cc a h => ⟨condRow_of_form h rfl, exec_of_ifCond (exec_of_form h s)⟩,
    fun h => ⟨row_of_form h rfl, _, exec_of_form h s, wordOf_toNat s.h s.l, rfl⟩⟩
  · rw [← State.jumpRel_eq]
    exact exec_of_form h s
  · rw [Nat.add_comm]
    exact condRow_of_form h rfl
  · rw [← State.jumpRel_eq]
    exact exec_of_ifCond (exec_of_form h s)

/-- Settles O53: the three forms are a call, under a condition for CALL cc. -/
theorem callsAndRestarts : Obligations.CallsAndRestarts := by
  refine fun i s => ⟨fun a h => ⟨row_of_form h rfl, callsTo_of_exec (exec_of_form h s)⟩,
    fun cc a h => ⟨condRow_of_form h rfl, ?_⟩, fun y h => ⟨row_of_form h rfl, ?_⟩⟩
  · obtain ⟨htaken, huntaken⟩ := exec_of_ifCond (exec_of_form h s)
    exact ⟨fun hc => callsTo_of_exec (htaken hc), huntaken⟩
  · obtain ⟨hfaults, hcall⟩ := callsTo_of_exec (exec_of_form h s)
    refine ⟨hfaults, fun hstack => ?_⟩
    obtain ⟨t, ht, hpushed, hpc⟩ := hcall hstack
    refine ⟨t, ht, hpushed, ?_⟩
    have hlt : y.val * 8 < 2 ^ 16 := by omega
    rw [hpc, BitVec.toNat_ofNat, Nat.mod_eq_of_lt hlt]

/-- Settles O55: the return pops the word the call pushed, and nothing else but the bus has changed. -/
theorem returnUndoesCall : Obligations.ReturnUndoesCall := by
  intro i j s a hi hj h1 h2
  obtain ⟨b, hb, hpushed⟩ :=
    callTo_accessible s a (accessible_of_plain h1) (accessible_of_plain h2)
  refine ⟨_, (exec_of_form hi s).trans (congrArg finish hb), fun x => ?_⟩
  exact (exec_of_form hj _).trans (congrArg finish (returnFromCall_of_pushed hpushed h1 h2 x))

end Sys2Proof
end

section
/-! SUPPORT. A delivery by a collaborator as a call of the source's handler (60_exceptions.md R305,
R306), and what RETI does after its return (48_control.md R284). -/

namespace Sys2Proof.Machine

/-- Where the handler of source `k` starts (R305). -/
def handlerAddress (k : Fin 5) : Word := BitVec.ofNat 16 (0x40 + 8 * k.val)

theorem handlerAddress_toNat (k : Fin 5) : (handlerAddress k).toNat = 0x40 + 8 * k.val := by
  have hlt : 0x40 + 8 * k.val < 2 ^ 16 := by omega
  rw [handlerAddress, BitVec.toNat_ofNat, Nat.mod_eq_of_lt hlt]

/-- Where a call of the handler completes, with `halted` and `ime` cleared before it, the delivery
leaves the same state: the collaborator makes the two writes of the call's push (R306). -/
theorem State.deliverInterrupt_of_callTo {s t : State} {k : Fin 5}
    (h : callTo ((s.setHalted false).setIme false) (handlerAddress k) = .ok t) :
    s.deliverInterrupt k = .ok t := by
  obtain ⟨u, hu, rfl⟩ := callTo_eq_ok h
  obtain ⟨b1, b2, hhi, hlo, rfl⟩ := push16_eq_ok hu
  unfold State.deliverInterrupt State.writeByte
  simp only [State.getR16]
  rw [store_ok hhi, Exec.ok_bind,
    store_ok (s := { (s.setHalted false).setIme false with bus := b1 }) hlo]
  rfl

/-- A completed RETI (R284). -/
theorem exec_of_reti {i : Instr} {s t : State} (h : i.form = .reti)
    (hret : returnFromCall s = .ok t) : exec i s = .next { t with ime := true } :=
  (exec_of_form h s).trans (congrArg (fun r => finish (r >>= _)) hret)

end Sys2Proof.Machine
end

section
/-! PROOFS. The obligation about a delivered interrupt (60_exceptions.md R304, R306), assembled from
the lemmas above. -/

namespace Sys2Proof

open Sys2Proof.Machine Sys2Proof.Claims

/-- Settles O56: the delivery is a call, so RETI's return pops the word it pushed; RETI then sets
IME, and `halted` stays as the delivery left it. -/
theorem retiEndsDeliveredInterrupt : Obligations.RetiEndsDeliveredInterrupt := by
  intro s k j hj h1 h2
  obtain ⟨b, hcall, hpushed⟩ := callTo_accessible ((s.setHalted false).setIme false)
    (handlerAddress k) (accessible_of_plain h1) (accessible_of_plain h2)
  refine ⟨_, State.deliverInterrupt_of_callTo hcall, handlerAddress_toNat k, rfl, rfl, rfl,
    fun x => ?_⟩
  exact exec_of_reti hj (returnFromCall_of_pushed hpushed h1 h2 x)

end Sys2Proof
end
